-- ==== Sys2Proof/Word.lean ====
section
/-!
DEFINITION. The fixed widths of the block (00_scope.md rule R6): the 16-bit command word of rule R90, the 32-bit
microsecond domain (`CNT_W`, `EPOCH_W`, `TCK_W`) and the 64-bit clock value and millisecond timestamp (`CLK_W`, `TS_W`).
-/

namespace Sys2Proof

/-- A command word, 16 bits (30_encoding.md R90). -/
abbrev CmdWord := BitVec 16

/-- A 32-bit microsecond quantity: a counter sample, a slot's `last`, an expiry, a period (R6, R21, R31). -/
abbrev Micros := BitVec 32

/-- A rollover count (`EPOCH_W` = 32, R6, R21). -/
abbrev Epoch := BitVec 32

/-- The extended clock value, and a millisecond timestamp (`CLK_W` = `TS_W` = 64, R6). -/
abbrev Clock := BitVec 64

end Sys2Proof
end

