-- ==== Sys2Proof/Syntax.lean ====
section
/-!
DEFINITION. The 28 operations of the block (00_scope.md rule R5, one constructor per row of the opcode map R94) and the
enumerated names of the spec (30_encoding.md rule R95).
-/

namespace Sys2Proof

/-- The two contexts (60_exceptions.md R265). -/
inductive Ctx where
  | fg
  | irq
  deriving DecidableEq, Repr, Inhabited

/-- Where a request comes from: a context's request port, or the event dispatcher (R90, R260, R264). -/
inductive Source where
  | port (x : Ctx)
  | dispatcher
  deriving DecidableEq, Repr, Inhabited

/-- The transmit state of a link (10_state.md R46). -/
inductive TxState where
  | idle
  | busy
  deriving DecidableEq, Repr, Inhabited

/-- The transmit variant of a link (00_scope.md R6, 44_link_tx.md R220). -/
inductive TxMode where
  | buffered
  | fireAndForget
  deriving DecidableEq, Repr, Inhabited

/-- The six error kinds, in the order of 10_state.md R45. -/
inductive ErrKind where
  | warning
  | dataOverflow
  | wakeUp
  | errorPassive
  | arbitrationLost
  | busError
  deriving DecidableEq, Repr, Inhabited

/-- The eight event kinds of a link's peripheral (60_exceptions.md R255). -/
inductive EventKind where
  | rxReady
  | txComplete
  | err (kind : ErrKind)
  deriving DecidableEq, Repr, Inhabited

/-- What happens to the frames left in the peripheral when ISR.RX stops on a full channel (43_link_rx.md R195). -/
inductive RxResidue where
  | discard
  | retain
  deriving DecidableEq, Repr, Inhabited

/-- An operation of the block. The number is the `inst` field of its command word: the ticker `t`, the channel `c` or the
link `k` (30_encoding.md R90). -/
inductive Instr where
  | clkUpdate
  | clkRead
  | clkReadMs
  | tckCheck (t : Nat)
  | tckReset (t : Nat)
  | timePast
  | chWrite (c : Nat)
  | chRead (c : Nat)
  | chPeek (c : Nat)
  | chDiscard (c : Nat)
  | chClear (c : Nat)
  | chFull (c : Nat)
  | chEmpty (c : Nat)
  | lnkRead (k : Nat)
  | lnkWrite (k : Nat)
  | lnkRxEmpty (k : Nat)
  | lnkRxFull (k : Nat)
  | lnkTxEmpty (k : Nat)
  | lnkTxFull (k : Nat)
  | lnkClear (k : Nat)
  | isrRx (k : Nat)
  | isrTxDone (k : Nat)
  | isrErrWarn (k : Nat)
  | isrErrOvf (k : Nat)
  | isrErrWake (k : Nat)
  | isrErrPassive (k : Nat)
  | isrErrArb (k : Nat)
  | isrErrBus (k : Nat)
  deriving DecidableEq, Repr, Inhabited

/-- One storage element: a bare value (a frame, or an element of a stand-alone channel), or a timestamped record, which is
the two-constructor type rule R44 of 10_state.md asks for. Values of the widths `ELEM_W[c]` and `FRAME_W`, which are open
parameters, are held as numbers below `2 ^ width` (DEDUCED, log entry 13). -/
inductive Elem where
  | raw (v : Nat)
  | data (ts : Clock) (frame : Nat)
  | error (ts : Clock) (kind : ErrKind)
  deriving DecidableEq, Repr, Inhabited

end Sys2Proof
end

