-- ==== Sys2Proof/Config.lean ====
section
/-!
DEFINITION. The implementation parameters the spec leaves open (00_scope.md rule R6, 92_eei_decisions.md "Open parameters,
gathered"), as one record that a state carries unchanged; one concrete instance, the configuration of the spec's own test
vectors; and the free values: what the spec calls unspecified at reset (93_implementation_defined.md U7), as constants without
a body.
-/

namespace Sys2Proof

/-- A ticker's parameters: `PERIOD[t]` (R30) and the one context that owns it (R266). -/
structure TckCfg where
  period : Micros
  owner : Ctx
  deriving DecidableEq, Repr, Inhabited

/-- A channel's parameters: `CAP[c]`, `ELEM_W[c]`, `PROD[c]`, `CONS[c]` (R6). For a link-owned channel the last three are
fixed by R41 and R96, and the values here are not read. -/
structure ChanCfg where
  cap : Nat
  elemW : Nat
  prod : Ctx
  cons : Ctx
  deriving DecidableEq, Repr, Inhabited

/-- A link's parameters: `HAS_RX[k]`, `HAS_TX[k]`, `TIMESTAMP[k]`, `TX_MODE[k]` (R6), and the channel numbers of `rx(k)` and
`tx(k)` (R41), read only when the link has the side. -/
structure LinkCfg where
  hasRx : Bool
  hasTx : Bool
  timestamp : Bool
  txMode : TxMode
  rxCh : Nat
  txCh : Nat
  deriving DecidableEq, Repr, Inhabited

/-- The open parameters of an instance of the block (R6). `N_TCK`, `N_CH` and `N_LNK` are the lengths of the three lists. -/
structure Params where
  /-- `T_HALF`, whose value for this hardware is 2^30 (R6, R140). -/
  tHalf : Nat
  /-- `CLK_UPDATER`. -/
  clkUpdater : Ctx
  /-- `RX_RESIDUE`. -/
  rxResidue : RxResidue
  /-- `FRAME_W`. -/
  frameW : Nat
  tcks : List TckCfg
  chans : List ChanCfg
  links : List LinkCfg
  deriving DecidableEq, Repr, Inhabited

/-- The instance `State.reset` is built for: the configuration of 95_test_vectors.md (table V-ENC: two tickers, stand-alone
channels 0 to 2, link 0 = `CAN_TS`, link 1 = `SERIAL_TX`; `FRAME_W` = 16; channel 1 as in P1, channel 2 as in P7), the
link-owned channels numbered after the stand-alone ones. DESIGN CHOICE, log entry 1: a claim about every state holds for
every configuration. -/
def Config.sample : Params where
  tHalf := 2 ^ 30
  clkUpdater := .fg
  rxResidue := .discard
  frameW := 16
  tcks := [⟨1000, .fg⟩, ⟨1000, .fg⟩]
  chans := [⟨4, 8, .fg, .irq⟩, ⟨4, 8, .fg, .irq⟩, ⟨4, 8, .irq, .fg⟩, ⟨4, 81, .irq, .fg⟩, ⟨4, 16, .fg, .irq⟩,
    ⟨4, 16, .fg, .irq⟩]
  links := [⟨true, true, true, .buffered, 3, 4⟩, ⟨false, true, false, .buffered, 0, 5⟩]

/-- Free value: `slot[1].epoch` at reset (10_state.md R55, U7). Log entry 2. -/
opaque Config.freeSlotEpoch : Epoch

/-- Free value: `slot[1].last` at reset (10_state.md R55, U7). Log entry 2. -/
opaque Config.freeSlotLast : Micros

/-- Free value: `expiry[t]` at reset (10_state.md R57: "a free draw (any 32-bit value), not as zero"). Log entry 2. -/
opaque Config.freeExpiry : Nat → Micros

/-- Free value: `store[c][i]` at reset, before it is fitted to the element type of the channel (10_state.md R56, U7).
Log entry 2. -/
opaque Config.freeElem : Nat → Nat → Elem

/-- Free value: what the hardware counter reads at reset (60_exceptions.md R270: "not known to the block"). Log entry 2. -/
opaque Config.freeCounter : Micros

end Sys2Proof
end

