-- ==== Sys2Proof/WellFormed.lean ====
section
/-!
DEFINITION. What a term must satisfy to mean something: an instruction whose instance number fits its 8-bit field (30_encoding.md
rule R90), and parameters that describe an instance of the block (00_scope.md rule R6, 10_state.md rule R41).
-/

namespace Sys2Proof

/-- The `inst` field of an operation's command word; 0 for `CLK.*` and TIMEPAST, which have none (R90). -/
def Instr.inst : Instr → Nat
  | .clkUpdate | .clkRead | .clkReadMs | .timePast => 0
  | .tckCheck t | .tckReset t => t
  | .chWrite c | .chRead c | .chPeek c | .chDiscard c | .chClear c | .chFull c | .chEmpty c => c
  | .lnkRead k | .lnkWrite k | .lnkRxEmpty k | .lnkRxFull k | .lnkTxEmpty k | .lnkTxFull k | .lnkClear k => k
  | .isrRx k | .isrTxDone k => k
  | .isrErrWarn k | .isrErrOvf k | .isrErrWake k | .isrErrPassive k | .isrErrArb k | .isrErrBus k => k

/-- The instance number fits the 8-bit `inst` field of the command word (R90). -/
def Instr.wf (i : Instr) : Bool := i.inst < 256

/-- The channel numbers a link owns (R41). -/
def LinkCfg.owned (l : LinkCfg) : List Nat :=
  (if l.hasRx then [l.rxCh] else []) ++ (if l.hasTx then [l.txCh] else [])

/-- A link has at least one side (R6: "at least one true") and its channels exist (R41). -/
def LinkCfg.wf (nCh : Nat) (l : LinkCfg) : Bool :=
  (l.hasRx || l.hasTx) && l.owned.all (· < nCh)

/-- The parameters describe an instance: every capacity is at least 1 (R6), every link is well formed, and no channel belongs
to two link sides (R41). -/
def Params.wf (p : Params) : Bool :=
  p.chans.all (fun c => 1 ≤ c.cap) && p.links.all (LinkCfg.wf p.chans.length) &&
    decide (p.links.flatMap LinkCfg.owned).Nodup

end Sys2Proof
end

