-- ==== Sys2Proof/Decode.lean ====
section
/-!
DEFINITION. The decoder of the 16-bit command word and, after it, the encoder (30_encoding.md rules R90, R94, R98, R99).
Decoding needs no configuration: which instance numbers exist is tested when the request is accepted (R99).
-/

namespace Sys2Proof

/-- Why a word is no operation. Both are refused as `IllegalCommand` (R98, R99). -/
inductive DecodeError where
  /-- The opcode is not in the opcode map (R98). -/
  | reservedOpcode
  /-- `inst` is not 0 in a `CLK.*` or TIMEPAST word (R90, R99). -/
  | instanceNotZero
  deriving DecidableEq, Repr

/-- Bits 7:0 of a command word, `{unit, op}` (R90). -/
def opcodeField (w : CmdWord) : Nat := (w.extractLsb' 0 8).toNat

/-- Bits 15:8 of a command word, `inst` (R90). -/
def instField (w : CmdWord) : Nat := (w.extractLsb' 8 8).toNat

/-- An operation of which there is one: its `inst` field must be 0 (R90). -/
def decodeSingle (inst : Nat) (i : Instr) : Except DecodeError Instr :=
  if inst = 0 then .ok i else .error .instanceNotZero

/-- The opcode map (R94): the operation named by an opcode and an instance number. -/
def decodeFields (opcode inst : Nat) : Except DecodeError Instr :=
  match opcode with
  | 0x00 => decodeSingle inst .clkUpdate
  | 0x01 => decodeSingle inst .clkRead
  | 0x02 => decodeSingle inst .clkReadMs
  | 0x10 => .ok (.tckCheck inst)
  | 0x11 => .ok (.tckReset inst)
  | 0x12 => decodeSingle inst .timePast
  | 0x20 => .ok (.chWrite inst)
  | 0x21 => .ok (.chRead inst)
  | 0x22 => .ok (.chPeek inst)
  | 0x23 => .ok (.chDiscard inst)
  | 0x24 => .ok (.chClear inst)
  | 0x25 => .ok (.chFull inst)
  | 0x26 => .ok (.chEmpty inst)
  | 0x30 => .ok (.lnkRead inst)
  | 0x31 => .ok (.lnkWrite inst)
  | 0x32 => .ok (.lnkRxEmpty inst)
  | 0x33 => .ok (.lnkRxFull inst)
  | 0x34 => .ok (.lnkTxEmpty inst)
  | 0x35 => .ok (.lnkTxFull inst)
  | 0x36 => .ok (.lnkClear inst)
  | 0x40 => .ok (.isrRx inst)
  | 0x41 => .ok (.isrTxDone inst)
  | 0x48 => .ok (.isrErrWarn inst)
  | 0x49 => .ok (.isrErrOvf inst)
  | 0x4A => .ok (.isrErrWake inst)
  | 0x4B => .ok (.isrErrPassive inst)
  | 0x4C => .ok (.isrErrArb inst)
  | 0x4D => .ok (.isrErrBus inst)
  | _ => .error .reservedOpcode

/-- The operation a command word requests (R90, R94). -/
def decode (w : CmdWord) : Except DecodeError Instr := decodeFields (opcodeField w) (instField w)

/-- The opcode `{unit, op}` of an operation (R94). -/
def Instr.opcode : Instr → BitVec 8
  | .clkUpdate => 0x00
  | .clkRead => 0x01
  | .clkReadMs => 0x02
  | .tckCheck _ => 0x10
  | .tckReset _ => 0x11
  | .timePast => 0x12
  | .chWrite _ => 0x20
  | .chRead _ => 0x21
  | .chPeek _ => 0x22
  | .chDiscard _ => 0x23
  | .chClear _ => 0x24
  | .chFull _ => 0x25
  | .chEmpty _ => 0x26
  | .lnkRead _ => 0x30
  | .lnkWrite _ => 0x31
  | .lnkRxEmpty _ => 0x32
  | .lnkRxFull _ => 0x33
  | .lnkTxEmpty _ => 0x34
  | .lnkTxFull _ => 0x35
  | .lnkClear _ => 0x36
  | .isrRx _ => 0x40
  | .isrTxDone _ => 0x41
  | .isrErrWarn _ => 0x48
  | .isrErrOvf _ => 0x49
  | .isrErrWake _ => 0x4A
  | .isrErrPassive _ => 0x4B
  | .isrErrArb _ => 0x4C
  | .isrErrBus _ => 0x4D

/-- The command word `{inst, unit, op}` of an operation (R90, R94). -/
def encode (i : Instr) : CmdWord := BitVec.ofNat 8 i.inst ++ i.opcode

/-- The operation the decoder reads from an instruction of `nbits` bits whose bits are `w`, every bit above them 0: the
command word is one 16-bit word on a request port, so there is no byte order to choose. -/
def decodeTableWord (nbits w : Nat) : Option Instr :=
  if w % 2 ^ nbits < 2 ^ 16 then (decode (BitVec.ofNat 16 (w % 2 ^ nbits))).toOption else none

end Sys2Proof
end

