-- ==== Sys2Proof/Machine/Layout.lean ====
section
/-!
DEFINITION. What follows from the parameters alone: instance counts, the two roles of a channel, link-owned channels
(10_state.md rule R41), the handler table (R48), the numeric codes of the enumerated values (30_encoding.md rule R95), and the
bit layout of an element at a result port (R96).
-/

namespace Sys2Proof

/-- `N_TCK` (R6). -/
def Params.nTck (p : Params) : Nat := p.tcks.length

/-- `N_CH`, stand-alone plus link-owned (R6). -/
def Params.nCh (p : Params) : Nat := p.chans.length

/-- `N_LNK` (R6). -/
def Params.nLnk (p : Params) : Nat := p.links.length

/-- The parameters of ticker `t`. -/
def Params.tck (p : Params) (t : Nat) : TckCfg := p.tcks.getD t ⟨0, .fg⟩

/-- The parameters of channel `c`. -/
def Params.chan (p : Params) (c : Nat) : ChanCfg := p.chans.getD c ⟨0, 0, .fg, .fg⟩

/-- The parameters of link `k`. -/
def Params.link (p : Params) (k : Nat) : LinkCfg := p.links.getD k ⟨false, false, false, .buffered, 0, 0⟩

/-- `PERIOD[t]` (R30). -/
def Params.period (p : Params) (t : Nat) : Micros := (p.tck t).period

/-- `CAP[c]` (R6). -/
def Params.cap (p : Params) (c : Nat) : Nat := (p.chan c).cap

/-- The channel number of `rx(k)` (R41). -/
def Params.rx (p : Params) (k : Nat) : Nat := (p.link k).rxCh

/-- The channel number of `tx(k)` (R41). -/
def Params.tx (p : Params) (k : Nat) : Nat := (p.link k).txCh

/-- `HAS_RX[k]` (R6). -/
def Params.hasRx (p : Params) (k : Nat) : Bool := (p.link k).hasRx

/-- `HAS_TX[k]` (R6). -/
def Params.hasTx (p : Params) (k : Nat) : Bool := (p.link k).hasTx

/-- `TIMESTAMP[k]` (R6). -/
def Params.timestamp (p : Params) (k : Nat) : Bool := (p.link k).timestamp

/-- `TX_MODE[k]` (R6). -/
def Params.txMode (p : Params) (k : Nat) : TxMode := (p.link k).txMode

/-- What a channel is (R6, R41): stand-alone, a timestamping link's receive channel, another link's receive channel, or a
transmit channel. -/
inductive ChanKind where
  | standAlone
  | rxRecord
  | rxFrame
  | tx
  deriving DecidableEq, Repr

/-- The kind a link gives channel `c`, if it owns it (R41, R44). -/
def LinkCfg.kindOf (l : LinkCfg) (c : Nat) : Option ChanKind :=
  if l.hasRx && l.rxCh == c then some (if l.timestamp then .rxRecord else .rxFrame)
  else if l.hasTx && l.txCh == c then some .tx
  else none

/-- The kind of channel `c` (R41). -/
def Params.kind (p : Params) (c : Nat) : ChanKind := (p.links.findSome? (·.kindOf c)).getD .standAlone

/-- `P = max(FRAME_W, 3)`: the payload width of a record (R96; `ERRK_W` = 3, R6). -/
def Params.payloadW (p : Params) : Nat := max p.frameW 3

/-- `ELEM_W[c]`: `P + 65` for a timestamped record, `FRAME_W` for a link's bare frames, the parameter otherwise (R96). -/
def Params.elemW (p : Params) (c : Nat) : Nat :=
  match p.kind c with
  | .standAlone => (p.chan c).elemW
  | .rxRecord => p.payloadW + 65
  | .rxFrame | .tx => p.frameW

/-- `PROD[c]`: the interrupt context for a receive channel, the foreground for a transmit channel (R41). -/
def Params.prod (p : Params) (c : Nat) : Ctx :=
  match p.kind c with
  | .standAlone => (p.chan c).prod
  | .rxRecord | .rxFrame => .irq
  | .tx => .fg

/-- `CONS[c]`: the foreground for a receive channel, the interrupt context for a transmit channel (R41). -/
def Params.cons (p : Params) (c : Nat) : Ctx :=
  match p.kind c with
  | .standAlone => (p.chan c).cons
  | .rxRecord | .rxFrame => .fg
  | .tx => .irq

/-- `attached[k][ev]`, the handler table fixed at construction (10_state.md R48, 60_exceptions.md R255). -/
def Params.attached (p : Params) (k : Nat) (ev : EventKind) : Bool :=
  decide (k < p.nLnk) &&
    match ev with
    | .rxReady => p.hasRx k
    | .txComplete => p.hasTx k
    | .err _ => p.hasRx k && p.timestamp k

/-- The interrupt-entry operation of (link, event kind) (R255, R260). -/
def EventKind.handler (k : Nat) : EventKind → Instr
  | .rxReady => .isrRx k
  | .txComplete => .isrTxDone k
  | .err .warning => .isrErrWarn k
  | .err .dataOverflow => .isrErrOvf k
  | .err .wakeUp => .isrErrWake k
  | .err .errorPassive => .isrErrPassive k
  | .err .arbitrationLost => .isrErrArb k
  | .err .busError => .isrErrBus k

/-- The (link, event kind) whose handler an operation is; `none` for an operation that is no interrupt entry (R255). -/
def Instr.event : Instr → Option (Nat × EventKind)
  | .isrRx k => some (k, .rxReady)
  | .isrTxDone k => some (k, .txComplete)
  | .isrErrWarn k => some (k, .err .warning)
  | .isrErrOvf k => some (k, .err .dataOverflow)
  | .isrErrWake k => some (k, .err .wakeUp)
  | .isrErrPassive k => some (k, .err .errorPassive)
  | .isrErrArb k => some (k, .err .arbitrationLost)
  | .isrErrBus k => some (k, .err .busError)
  | _ => none

/-- The 3-bit code of an error kind (R95). -/
def ErrKind.code : ErrKind → Nat
  | .warning => 0
  | .dataOverflow => 1
  | .wakeUp => 2
  | .errorPassive => 3
  | .arbitrationLost => 4
  | .busError => 5

/-- The 4-bit code of an event kind: an error event is 8 plus its error kind (R95). -/
def EventKind.code : EventKind → Nat
  | .rxReady => 0
  | .txComplete => 1
  | .err kind => 8 + kind.code

/-- `Idle` = 0, `Busy` = 1 (R95). -/
def TxState.code : TxState → Nat
  | .idle => 0
  | .busy => 1

/-- `buffered` = 0, `fire_and_forget` = 1 (R95). -/
def TxMode.code : TxMode → Nat
  | .buffered => 0
  | .fireAndForget => 1

/-- `FG` = 0, `IRQ` = 1 (R95). -/
def Ctx.code : Ctx → Nat
  | .fg => 0
  | .irq => 1

/-- The record `{is_error, ts_ms, payload}` as a number of `P + 65` bits (R96). -/
def recordBits (payloadW : Nat) (isError : Bool) (ts : Clock) (payload : Nat) : Nat :=
  isError.toNat * 2 ^ (payloadW + 64) + ts.toNat * 2 ^ payloadW + payload

/-- An element as the bits a result port shows (R93, R96). -/
def Elem.toBits (payloadW : Nat) : Elem → Nat
  | .raw v => v
  | .data ts f => recordBits payloadW false ts f
  | .error ts kind => recordBits payloadW true ts kind.code

/-- An element fits the type and width of the elements of a channel (R44, R96): a record with a frame of `FRAME_W` bits or an
error kind in a timestamping receive channel, a bare value of `ELEM_W[c]` bits elsewhere. -/
def Elem.fits (p : Params) (c : Nat) (e : Elem) : Bool :=
  match p.kind c, e with
  | .rxRecord, .data _ f => f < 2 ^ p.frameW
  | .rxRecord, .error _ _ => true
  | .rxRecord, .raw _ => false
  | _, .raw v => v < 2 ^ p.elemW c
  | _, _ => false

/-- Fits any element to channel `c` and leaves one that fits as it is: how a free element becomes the unspecified reset
contents of a storage cell of that channel (R56, U7). -/
def Elem.fitTo (p : Params) (c : Nat) (e : Elem) : Elem :=
  match p.kind c, e with
  | .rxRecord, .data ts f => .data ts (f % 2 ^ p.frameW)
  | .rxRecord, .error ts kind => .error ts kind
  | .rxRecord, .raw v => .data 0 (v % 2 ^ p.frameW)
  | _, .raw v => .raw (v % 2 ^ p.elemW c)
  | _, .data _ f => .raw (f % 2 ^ p.elemW c)
  | _, .error _ kind => .raw (kind.code % 2 ^ p.elemW c)

end Sys2Proof
end

