-- ==== Sys2Proof/Machine/Admission.lean ====
section
/-!
DEFINITION. What the parameters say of a request before it starts: which instances exist (30_encoding.md rule R99), which context
may issue what (60_exceptions.md rule R266), and which channels an operation uses or clears (42_channel.md rule R165).
-/

namespace Sys2Proof

/-- The word names an existing instance, and a link side that is there (R99). -/
def Instr.legal (p : Params) : Instr → Bool
  | .clkUpdate | .clkRead | .clkReadMs | .timePast => true
  | .tckCheck t | .tckReset t => t < p.nTck
  | .chWrite c | .chRead c | .chPeek c | .chDiscard c | .chClear c | .chFull c | .chEmpty c => c < p.nCh
  | .lnkRead k | .lnkRxEmpty k | .lnkRxFull k | .isrRx k => decide (k < p.nLnk) && p.hasRx k
  | .lnkWrite k | .lnkTxEmpty k | .lnkTxFull k | .isrTxDone k => decide (k < p.nLnk) && p.hasTx k
  | .lnkClear k => k < p.nLnk
  | .isrErrWarn k | .isrErrOvf k | .isrErrWake k | .isrErrPassive k | .isrErrArb k | .isrErrBus k =>
    decide (k < p.nLnk) && p.hasRx k && p.timestamp k

/-- Channel operations act on stand-alone channels only; those a link owns are reached through the link (R41, R266).
DEDUCED, log entry 6: a request for one of those is a RoleViolation. -/
def Params.standAlone (p : Params) (c : Nat) : Bool := p.kind c == .standAlone

/-- The operations a context may issue on its request port (R266). -/
def Instr.portAllows (p : Params) (x : Ctx) : Instr → Bool
  | .clkRead | .clkReadMs | .timePast => true
  | .clkUpdate => x == p.clkUpdater
  | .tckCheck t | .tckReset t => x == (p.tck t).owner
  | .chWrite c => p.standAlone c && x == p.prod c
  | .chRead c | .chPeek c | .chDiscard c => p.standAlone c && x == p.cons c
  | .chFull c | .chEmpty c => p.standAlone c && (x == p.prod c || x == p.cons c)
  | .chClear c => p.standAlone c && x == .fg
  | .lnkRead _ | .lnkWrite _ | .lnkRxEmpty _ | .lnkRxFull _ | .lnkTxEmpty _ | .lnkTxFull _ | .lnkClear _ => x == .fg
  | .isrRx _ | .isrTxDone _ | .isrErrWarn _ | .isrErrOvf _ | .isrErrWake _ | .isrErrPassive _ | .isrErrArb _
  | .isrErrBus _ => false

/-- Who may issue what (R266): the interrupt entries belong to the dispatcher, everything else to the request ports. -/
def Instr.roleAllows (p : Params) (src : Source) (i : Instr) : Bool :=
  match src with
  | .dispatcher => i.event.isSome
  | .port x => i.portAllows p x

/-- The context a source runs its operation in (R260, R264). -/
def Source.ctx : Source → Ctx
  | .port x => x
  | .dispatcher => .irq

/-- The channels an operation uses (R165: the channel of the request, or of the handler's link). -/
def Instr.uses (p : Params) : Instr → List Nat
  | .chWrite c | .chRead c | .chPeek c | .chDiscard c | .chClear c | .chFull c | .chEmpty c => [c]
  | .lnkRead k | .lnkRxEmpty k | .lnkRxFull k | .isrRx k => [p.rx k]
  | .lnkWrite k | .lnkTxEmpty k | .lnkTxFull k | .isrTxDone k => [p.tx k]
  | .lnkClear k => (p.link k).owned
  | .isrErrWarn k | .isrErrOvf k | .isrErrWake k | .isrErrPassive k | .isrErrArb k | .isrErrBus k => [p.rx k]
  | .clkUpdate | .clkRead | .clkReadMs | .timePast | .tckCheck _ | .tckReset _ => []

/-- The channels an operation clears (R165, R224). -/
def Instr.clears (p : Params) : Instr → List Nat
  | .chClear c => [c]
  | .lnkClear k => (p.link k).owned
  | _ => []

end Sys2Proof
end

