-- ==== Sys2Proof/Machine/State.lean ====
section
/-!
DEFINITION. The state of the block and of its environment as plain data (10_state.md rules R20 to R57, 60_exceptions.md rules
R270 to R280), the reasons a step can stop, and the state after reset.
-/

namespace Sys2Proof.Machine

/-- Why the run ends: the model-level faults of 60_exceptions.md rule R250. Safe: each stops a run the source gives no
meaning to. -/
inductive Fault where
  /-- Code 1. Raised by CH.READ and LNK.READ, which see the channel empty at step Q3 (R162, R191, U1). Safe. -/
  | readEmpty (c : Nat)
  /-- Code 2. Raised by CH.PEEK, which sees the channel empty at step Q3 (R163, U2). Safe. -/
  | peekEmpty (c : Nat)
  /-- Code 3. Raised by CH.DISCARD, which sees the channel empty at step Q3 (R164, U3). Safe. -/
  | discardEmpty (c : Nat)
  /-- Code 4. Raised when a handler, or a request on the `IRQ` port, that uses channel `c` is to start while a CH.CLEAR or
  LNK.CLEAR of `c` is in flight in `FG` (R165, R224, U12). Safe. -/
  | clearBusy (c : Nat)
  deriving DecidableEq, Repr

/-- The host's refusals. A request the spec refuses is no such refusal: the machine records it and goes on
(`State.refuse`). -/
inductive Refusal where
  /-- Raised by `exec` for an instruction without a meaning; none is left. Safe. -/
  | notModelled (mnemonic : String)
  deriving DecidableEq, Repr

/-- The spec's refusals, recorded by the machine (60_exceptions.md R252). -/
inductive RefusalCode where
  /-- Code 16: a reserved opcode, an instance that does not exist, or a side the link lacks (R98, R99). -/
  | illegalCommand
  /-- Code 17: the issuing context may not issue the operation (R266). -/
  | roleViolation
  /-- Code 18: an `ISR.*` word on a request port (R317). -/
  | directIsrCall
  deriving DecidableEq, Repr

/-- One clock slot (10_state.md R21). -/
structure Slot where
  epoch : Epoch
  last : Micros
  deriving DecidableEq, Repr

/-- One channel's registers: the cursors, in `[0, 2*CAP)`, and the storage array (R35 to R37). -/
structure Chan where
  head : Nat
  tail : Nat
  store : List Elem
  deriving DecidableEq, Repr

/-- The temporaries of an operation in flight (R51): `s`, `c`, `e`, `l` and the reading of the clock operations, the ticker's
`x`, the loaded cursors `h` and `t`, the loaded transmit state `st`, the element in hand, the frame in hand. -/
structure Temps where
  sample : Micros := 0
  cur : BitVec 1 := 0
  epoch : Epoch := 0
  last : Micros := 0
  reading : Clock := 0
  expiry : Micros := 0
  head : Nat := 0
  tail : Nat := 0
  st : TxState := .idle
  elem : Elem := .raw 0
  frame : Nat := 0
  deriving DecidableEq, Repr

/-- The in-flight operation record (R50): opcode and instance, sampled operands, the number of the next micro-step, and
temporaries. -/
structure InFlight where
  instr : Instr
  arg0 : Nat
  arg1 : Nat
  ustep : Nat
  temps : Temps
  deriving DecidableEq, Repr

/-- What a request port shows when an operation has ended (30_encoding.md R93). -/
inductive Result where
  /-- No result: format `N`, CH.WRITE, a refused request, an operation that has not ended. -/
  | none
  /-- `res`: a value of `width` bits. -/
  | res (width value : Nat)
  /-- `flag`: one bit. -/
  | flag (b : Bool)
  deriving DecidableEq, Repr

/-- One value per context. -/
structure PerCtx (α : Type) where
  fg : α
  irq : α
  deriving DecidableEq, Repr

/-- What is presented to the block with a command word: its source and the operand ports (R90, R92). -/
structure Request where
  src : Source
  arg0 : Nat
  arg1 : Nat
  deriving DecidableEq, Repr

/-- A link's peripheral as the block sees it (60_exceptions.md R271 to R273, R280). Environment state. -/
structure Peripheral where
  /-- `hw_rxq[k]`: frames received and not yet taken, oldest first (R280). -/
  rxq : List Nat
  /-- What the next `HwXmit` answers; the environment changes it by a move (R272). -/
  accepts : Bool
  /-- What `HwTxActive` answers (R273); no operation asks. -/
  txActive : Bool
  /-- The frames it has accepted, oldest first (R272: "the peripheral owns `f` from then on"). The model's own record. -/
  sent : List Nat
  deriving DecidableEq, Repr

/-- A move of the environment or of the schedule at a micro-step boundary (R53, R257, R264, R270, R280). -/
inductive Move where
  /-- A command word on the request port of `x` with its operands. `whole`: its micro-steps run with nothing between them;
  otherwise it is accepted and held at its first micro-step. -/
  | request (whole : Bool) (x : Ctx) (word : CmdWord) (arg0 arg1 : Nat)
  /-- A hardware event: the invocation of its handler (R257). `whole` as above. -/
  | event (whole : Bool) (k : Nat) (ev : EventKind)
  /-- One micro-step of the operation that has the processor. -/
  | advance
  /-- `us` microseconds pass (R270). -/
  | elapse (us : Nat)
  /-- The peripheral of link `k` receives a frame (R280). -/
  | arrive (k frame : Nat)
  /-- What `HwXmit(k, _)` answers from now on (R272). -/
  | answer (k : Nat) (accepts : Bool)
  /-- What `HwTxActive(k)` answers from now on (R273). -/
  | transmitting (k : Nat) (active : Bool)
  deriving DecidableEq, Repr

/-- The block, its ports and its environment. -/
structure State where
  /-- The parameters of R6, among them the constant registers `PERIOD[t]` and `attached[k][ev]` of R54; never written. -/
  cfg : Params
  /-- `slot[0]` (R21). -/
  slot0 : Slot
  /-- `slot[1]` (R21). -/
  slot1 : Slot
  /-- `idx` (R22). -/
  idx : BitVec 1
  /-- `expiry[t]` (R31). -/
  expiry : List Micros
  /-- `head[c]`, `tail[c]`, `store[c]` (R35 to R37). -/
  chans : List Chan
  /-- `tx_state[k]` (R46); the entry of a link without `HAS_TX` is not used. -/
  txState : List TxState
  /-- `inflight[x]` (R50). -/
  inflight : PerCtx (Option InFlight)
  /-- The request being presented (R90, R92). This field and the next: DESIGN CHOICE, log entry 15. -/
  req : Request
  /-- The result ports (R93). -/
  result : PerCtx Result
  /-- The refusals recorded so far, newest first (R252). -/
  refusals : List RefusalCode
  /-- `tau`, the environment's time in microseconds (R270). -/
  tau : Nat
  /-- The links' peripherals (R280). -/
  hw : List Peripheral
  /-- The moves still to come, the environment's choice (R53). The model's own field: DESIGN CHOICE, log entry 4. -/
  script : List Move
  deriving DecidableEq, Repr

/-- A channel after reset: empty, its storage unspecified (R56). -/
def resetChan (p : Params) (c : Nat) : Chan where
  head := 0
  tail := 0
  store := (List.range (p.cap c)).map fun i => (Config.freeElem c i).fitTo p c

/-- The state right after reset of an instance with parameters `p` (R55, R56, R57, R290, R291): `slot[1]`, every `expiry[t]`,
every storage element and the counter are free values (log entry 2); the peripherals hold no frame and accept (DESIGN CHOICE, log
entry 3); the ports show nothing, and no move is due. -/
def State.resetWith (p : Params) : State where
  cfg := p
  slot0 := ⟨0, 0⟩
  slot1 := ⟨Config.freeSlotEpoch, Config.freeSlotLast⟩
  idx := 0
  expiry := (List.range p.nTck).map Config.freeExpiry
  chans := (List.range p.nCh).map (resetChan p)
  txState := List.replicate p.nLnk .idle
  inflight := ⟨none, none⟩
  req := ⟨.port .fg, 0, 0⟩
  result := ⟨.none, .none⟩
  refusals := []
  tau := Config.freeCounter.toNat
  hw := List.replicate p.nLnk ⟨[], true, false, []⟩
  script := []

/-- The machine right after reset, for the configuration of the spec's test vectors (DESIGN CHOICE, log entry 1). -/
def State.reset : State := State.resetWith Config.sample

end Sys2Proof.Machine
end

