-- ==== Sys2Proof/Machine/Flags.lean ====
section
/-!
DEFINITION. Every flag of the block: occupancy, empty and full of a channel as functions of two cursors (10_state.md rule R38,
42_channel.md rules R160, R170) and the predicate of TIMEPAST (41_deadline.md rule R140).
-/

namespace Sys2Proof.Machine

/-- `(t - h) mod M`, the non-negative remainder, for any naturals (R8, R160). -/
def cursorDiff (m t h : Nat) : Nat := (t + (m - h % m)) % m

/-- `CUR_MOD[c] = 2 * CAP[c]` (R6, R170). -/
def curMod (cap : Nat) : Nat := 2 * cap

/-- Occupancy for loaded cursors `t`, `h` (R38, R160). -/
def occ (cap t h : Nat) : Nat := cursorDiff (curMod cap) t h

/-- `full`: `occ == CAP` (R38, R160). -/
def isFull (cap t h : Nat) : Bool := occ cap t h == cap

/-- `empty`: `t == h` (R162, R167; for cursors in range the same as `occ == 0`, R38). -/
def isEmpty (t h : Nat) : Bool := t == h

/-- The next value of a cursor (R170). -/
def cursorNext (cap x : Nat) : Nat := (x + 1) % curMod cap

/-- `TP(cur, ref)` of rule R140, with `T_HALF` as a parameter (D14). -/
def timePast (tHalf : Nat) (cur ref : Micros) : Bool :=
  if ref < cur then decide ((cur - ref).toNat < tHalf)
  else if cur < ref then decide (tHalf < (ref - cur).toNat)
  else false

end Sys2Proof.Machine
end

