-- ==== Sys2Proof/Machine/Operands.lean ====
section
/-!
DEFINITION. The operand ports (30_encoding.md rule R92), and the arithmetic of the values that cross the result ports: the
64-bit clock value (R97, 40_clock.md rule R125) and its millisecond form (R122).
-/

namespace Sys2Proof.Machine

/-- `arg0` as an operation samples it: the low bits the operand has (R92); 0 when it has no such operand.
DEDUCED, log entry 12. -/
def operand0 (p : Params) (i : Instr) (a : Nat) : Nat :=
  match i with
  | .timePast => a % 2 ^ 32
  | .chWrite c => a % 2 ^ p.elemW c
  | .lnkWrite _ => a % 2 ^ p.frameW
  | _ => 0

/-- `arg1` as an operation samples it: only TIMEPAST has one (R92). -/
def operand1 (i : Instr) (a : Nat) : Nat :=
  match i with
  | .timePast => a % 2 ^ 32
  | _ => 0

/-- The rollover count after the detection of R120 step U5 and R121 step K5: one more, modulo 2^32, when the sample is
numerically smaller than the recorded one. -/
def rollover (e : Epoch) (l s : Micros) : Epoch := if s < l then e + 1 else e

/-- The 64-bit clock value `{e, s}` (R97). -/
def clockValue (e : Epoch) (s : Micros) : Clock := e ++ s

/-- `floor(v / 1000)`, unsigned (R122, R125). -/
def millis (v : Clock) : Clock := v / 1000#64

/-- The low 32 bits of a reading, the ticker's `now` (R142). -/
def nowOf (v : Clock) : Micros := v.extractLsb' 0 32

/-- A clock value on the 64-bit result port (R93). -/
def Result.clock (v : Clock) : Result := .res 64 v.toNat

/-- An element of channel `c` on the result port (R93, R96). -/
def Result.elem (p : Params) (c : Nat) (e : Elem) : Result := .res (p.elemW c) (e.toBits p.payloadW)

end Sys2Proof.Machine
end

