-- ==== Sys2Proof/Machine/Ops.lean ====
section
/-!
DEFINITION. The named operations over the registers, the environment calls (60_exceptions.md rules R270 to R274), the test a
request passes before it starts (R252, R258, R266), entry to and return from an operation (R50, R260, R261), and the running of
its micro-steps (00_scope.md rule R10).
-/

namespace Sys2Proof.Machine

/-! ## Registers -/

/-- The value held for context `x`. -/
def PerCtx.get {α : Type} (p : PerCtx α) : Ctx → α
  | .fg => p.fg
  | .irq => p.irq

/-- Replaces the value held for context `x`. -/
def PerCtx.set {α : Type} (p : PerCtx α) (x : Ctx) (v : α) : PerCtx α :=
  match x with
  | .fg => { p with fg := v }
  | .irq => { p with irq := v }

/-- `slot[i]` (R21). -/
def State.slot (s : State) (i : BitVec 1) : Slot := if i = 0 then s.slot0 else s.slot1

/-- A store of `slot[i].epoch` (R21, R63). -/
def State.setEpoch (s : State) (i : BitVec 1) (e : Epoch) : State :=
  if i = 0 then { s with slot0 := { s.slot0 with epoch := e } } else { s with slot1 := { s.slot1 with epoch := e } }

/-- A store of `slot[i].last` (R21, R63). -/
def State.setLast (s : State) (i : BitVec 1) (l : Micros) : State :=
  if i = 0 then { s with slot0 := { s.slot0 with last := l } } else { s with slot1 := { s.slot1 with last := l } }

/-- The store of `idx` (R22). -/
def State.setIdx (s : State) (i : BitVec 1) : State := { s with idx := i }

/-- `expiry[t]` (R31). -/
def State.expiryOf (s : State) (t : Nat) : Micros := s.expiry.getD t 0

/-- A store of `expiry[t]` (R31). -/
def State.setExpiry (s : State) (t : Nat) (v : Micros) : State := { s with expiry := s.expiry.set t v }

/-- The registers of channel `c`. -/
def State.chan (s : State) (c : Nat) : Chan := s.chans.getD c ⟨0, 0, []⟩

/-- `head[c]` (R36). -/
def State.head (s : State) (c : Nat) : Nat := (s.chan c).head

/-- `tail[c]` (R37). -/
def State.tail (s : State) (c : Nat) : Nat := (s.chan c).tail

/-- A store of `head[c]` (R36). -/
def State.setHead (s : State) (c v : Nat) : State :=
  { s with chans := s.chans.modify c fun ch => { ch with head := v } }

/-- A store of `tail[c]` (R37). -/
def State.setTail (s : State) (c v : Nat) : State :=
  { s with chans := s.chans.modify c fun ch => { ch with tail := v } }

/-- `MemRead(store[c], i, n)` (R9). -/
def State.memRead (s : State) (c i : Nat) : Elem := (s.chan c).store.getD i (.raw 0)

/-- `MemWrite(store[c], i, n, v)` (R9). -/
def State.memWrite (s : State) (c i : Nat) (v : Elem) : State :=
  { s with chans := s.chans.modify c fun ch => { ch with store := ch.store.set i v } }

/-- `tx_state[k]` (R46). -/
def State.tx (s : State) (k : Nat) : TxState := s.txState.getD k .idle

/-- A store of `tx_state[k]` (R46). -/
def State.setTx (s : State) (k : Nat) (v : TxState) : State := { s with txState := s.txState.set k v }

/-- The contents of channel `c`, oldest first (R39). -/
def State.contents (s : State) (c : Nat) : List Elem :=
  (List.range (occ (s.cfg.cap c) (s.tail c) (s.head c))).map fun i => s.memRead c ((s.head c + i) % s.cfg.cap c)

/-! ## Environment calls -/

/-- The peripheral of link `k`. -/
def State.peripheral (s : State) (k : Nat) : Peripheral := s.hw.getD k ⟨[], true, false, []⟩

/-- Replaces the peripheral of link `k`. -/
def State.setPeripheral (s : State) (k : Nat) (h : Peripheral) : State := { s with hw := s.hw.set k h }

/-- `HwCounter()`: `tau mod 2^32` (R270). -/
def State.hwCounter (s : State) : Micros := BitVec.ofNat 32 s.tau

/-- `HwRecv(k)`: the oldest pending frame, removed, or absence (R271). -/
def State.hwRecv (s : State) (k : Nat) : Option (Nat × State) :=
  match (s.peripheral k).rxq with
  | [] => none
  | f :: rest => some (f, s.setPeripheral k { s.peripheral k with rxq := rest })

/-- `HwXmit(k, f)`: the peripheral's answer; when it accepts, it owns `f` (R272). -/
def State.hwXmit (s : State) (k f : Nat) : Bool × State :=
  let h := s.peripheral k
  if h.accepts then (true, s.setPeripheral k { h with sent := h.sent ++ [f] }) else (false, s)

/-- `HwTxActive(k)` (R273): no operation of the block calls it. -/
def State.hwTxActive (s : State) (k : Nat) : Bool := (s.peripheral k).txActive

/-- Step A6 of ISR.RX: with `RX_RESIDUE = discard` the environment empties `hw_rxq[k]` (R195, R280). -/
def State.residue (s : State) (k : Nat) : State :=
  match s.cfg.rxResidue with
  | .discard => s.setPeripheral k { s.peripheral k with rxq := [] }
  | .retain => s

/-! ## What a request must pass before it starts -/

/-- The channels a clear in flight in the foreground will empty (R165). DEDUCED, log entry 9: from its acceptance to its
return. -/
def State.clearing (s : State) : List Nat :=
  match s.inflight.fg with
  | some r => r.instr.clears s.cfg
  | none => []

/-- The outcome of the tests made before an operation starts (R258). -/
inductive Verdict where
  | accepted
  | refused (code : RefusalCode)
  | busy (c : Nat)
  deriving DecidableEq, Repr

/-- The refusals, tested in the order of R258. -/
def State.refusal (s : State) (i : Instr) : Option RefusalCode :=
  if !i.legal s.cfg then some .illegalCommand
  else if i.event.isSome && s.req.src != .dispatcher then some .directIsrCall
  else if !i.roleAllows s.cfg s.req.src then some .roleViolation
  else none

/-- The channel that makes an operation started in `IRQ` meet a clear of the foreground in flight, if there is one (R165,
R224, R264). -/
def State.busyChannel (s : State) (i : Instr) : Option Nat :=
  match s.req.src.ctx with
  | .fg => none
  | .irq => (i.uses s.cfg).find? fun c => s.clearing.contains c

/-- Everything tested before the operation `i` presented by `s.req` starts. -/
def State.verdict (s : State) (i : Instr) : Verdict :=
  match s.refusal i with
  | some code => .refused code
  | none =>
    match s.busyChannel i with
    | some c => .busy c
    | none => .accepted

/-! ## Entry, return, refusal -/

/-- Entry (R50, R260): the in-flight record of the context is set to the operation at its first micro-step, with its operands
sampled; nothing else is saved or changed. The result port shows nothing until the operation ends (R93). -/
def State.enter (s : State) (i : Instr) : State :=
  { s with
    inflight := s.inflight.set s.req.src.ctx
      (some ⟨i, operand0 s.cfg i s.req.arg0, operand1 i s.req.arg1, 1, {}⟩)
    result := s.result.set s.req.src.ctx .none }

/-- The operation in flight in `x` stands at the record `r` (R50). -/
def State.hold (s : State) (x : Ctx) (r : InFlight) : State := { s with inflight := s.inflight.set x (some r) }

/-- Return (R50, R261): the in-flight record becomes `none`, and the result is presented (R93). -/
def State.leave (s : State) (x : Ctx) (res : Result) : State :=
  { s with inflight := s.inflight.set x none, result := s.result.set x res }

/-- A refused request changes no register and presents no result; the reason is recorded (R252).
DESIGN CHOICE, log entry 7: the record is a list. -/
def State.refuse (s : State) (code : RefusalCode) : State :=
  { s with result := s.result.set s.req.src.ctx .none, refusals := code :: s.refusals }

/-- The code of a fault (R250). -/
def Fault.code : Fault → Nat
  | .readEmpty _ => 1
  | .peekEmpty _ => 2
  | .discardEmpty _ => 3
  | .clearBusy _ => 4

/-- The channel number a fault records (R250). -/
def Fault.channel : Fault → Nat
  | .readEmpty c | .peekEmpty c | .discardEmpty c | .clearBusy c => c

/-- The code of a refusal (R252). -/
def RefusalCode.code : RefusalCode → Nat
  | .illegalCommand => 16
  | .roleViolation => 17
  | .directIsrCall => 18

/-! ## Micro-steps -/

/-- What one micro-step of an operation does (R10, R50). -/
inductive Micro where
  /-- The operation goes on at record `r`. -/
  | goto (r : InFlight) (s : State)
  /-- `return`. -/
  | done (res : Result) (s : State)
  /-- `raise`. -/
  | raise (f : Fault)

/-- What one micro-step of a called operation does (`call`, R9). -/
inductive Sub where
  /-- The called operation goes on at its next step. -/
  | more (t : Temps) (s : State)
  /-- It has returned. -/
  | ret (t : Temps) (s : State)
  /-- It faults. -/
  | raise (f : Fault)

/-- The record `r` at step `n` with temporaries `t`. -/
def InFlight.at (r : InFlight) (n : Nat) (t : Temps) : InFlight := { r with ustep := n, temps := t }

/-- Executes a step of a called operation in place (`call`, R9): the caller's step number moves with the called operation's,
and `k` says what follows its return. -/
def Sub.andThen (u : Sub) (r : InFlight) (k : Temps → State → Micro) : Micro :=
  match u with
  | .more t s => .goto (r.at (r.ustep + 1) t) s
  | .ret t s => k t s
  | .raise f => .raise f

/-- One micro-step, by `f`, of the operation held in `x` as `r`. -/
def State.microStep (s : State) (f : InFlight → State → Micro) (x : Ctx) (r : InFlight) :
    Host.Outcome State Fault Refusal :=
  match f r s with
  | .goto r' s' => .next (s'.hold x r')
  | .done res s' => .next (s'.leave x res)
  | .raise e => .fault e

/-- Up to `n` micro-steps of the operation in flight in `x`, ending where it ends. -/
def State.runMicro (f : InFlight → State → Micro) (x : Ctx) : Nat → State → Host.Outcome State Fault Refusal
  | 0, s => .next s
  | n + 1, s =>
    match s.inflight.get x with
    | none => .next s
    | some r =>
      match s.microStep f x r with
      | .next s' => State.runMicro f x n s'
      | .fault e => .fault e
      | .refused e => .refused e

/-- A whole operation: the tests, then, if it is accepted, all its micro-steps (`f`, at most `n`) with nothing between them.
DESIGN CHOICE, log entry 11. -/
def State.perform (s : State) (i : Instr) (f : InFlight → State → Micro) (n : Nat) :
    Host.Outcome State Fault Refusal :=
  match s.verdict i with
  | .refused code => .next (s.refuse code)
  | .busy c => .fault (.clearBusy c)
  | .accepted => State.runMicro f s.req.src.ctx n (s.enter i)

/-- An operation that is accepted and held at its first micro-step (R50). -/
def State.issue (s : State) (i : Instr) : Host.Outcome State Fault Refusal :=
  match s.verdict i with
  | .refused code => .next (s.refuse code)
  | .busy c => .fault (.clearBusy c)
  | .accepted => .next (s.enter i)

end Sys2Proof.Machine
end

