-- ==== Sys2Proof/Machine/Clock.lean ====
section
/-!
DEFINITION. The monotonic clock: CLK.UPDATE, CLK.READ, CLK.READMS (40_clock.md rules R120 to R122). The arms of each `micro`
function are the numbered micro-steps of its rule, in order.
-/

namespace Sys2Proof.Machine

/-- CLK.READ as a called operation, steps K1 to K5 (R121): the sample first, then `idx`, then `epoch`, then `last`. -/
def clkReadSub (j : Nat) (t : Temps) (s : State) : Sub :=
  match j with
  | 1 => .more { t with sample := s.hwCounter } s
  | 2 => .more { t with cur := s.idx } s
  | 3 => .more { t with epoch := (s.slot t.cur).epoch } s
  | 4 => .more { t with last := (s.slot t.cur).last } s
  | _ => .ret { t with reading := clockValue (rollover t.epoch t.last t.sample) t.sample } s

/-- CLK.UPDATE, steps U1 to U7 (R120). -/
def microClkUpdate (r : InFlight) (s : State) : Micro :=
  let t := r.temps
  match r.ustep with
  | 1 => .goto (r.at 2 { t with sample := s.hwCounter }) s
  | 2 => .goto (r.at 3 { t with cur := s.idx }) s
  | 3 => .goto (r.at 4 { t with last := (s.slot t.cur).last }) s
  | 4 => .goto (r.at 5 { t with epoch := (s.slot t.cur).epoch }) s
  | 5 => .goto (r.at 6 t) (s.setEpoch (1 - t.cur) (rollover t.epoch t.last t.sample))
  | 6 => .goto (r.at 7 t) (s.setLast (1 - t.cur) t.sample)
  | _ => .done .none (s.setIdx (1 - t.cur))

/-- CLK.READ (R121). -/
def microClkRead (r : InFlight) (s : State) : Micro :=
  (clkReadSub r.ustep r.temps s).andThen r fun t s => .done (.clock t.reading) s

/-- CLK.READMS (R122): CLK.READ, and the quotient by 1000 at its return. -/
def microClkReadMs (r : InFlight) (s : State) : Micro :=
  (clkReadSub r.ustep r.temps s).andThen r fun t s => .done (.clock (millis t.reading)) s

/-- CLK.UPDATE. -/
def execClkUpdate (s : State) : Host.Outcome State Fault Refusal := s.perform .clkUpdate microClkUpdate 7

/-- CLK.READ. -/
def execClkRead (s : State) : Host.Outcome State Fault Refusal := s.perform .clkRead microClkRead 5

/-- CLK.READMS. -/
def execClkReadMs (s : State) : Host.Outcome State Fault Refusal := s.perform .clkReadMs microClkReadMs 5

end Sys2Proof.Machine
end

