-- ==== Sys2Proof/Machine/Deadline.lean ====
section
/-!
DEFINITION. The deadline comparator and the tickers: TIMEPAST, TCK.CHECK, TCK.RESET (41_deadline.md rules R140, R142, R143).
-/

namespace Sys2Proof.Machine

/-- TIMEPAST, one micro-step (R140). -/
def microTimePast (r : InFlight) (s : State) : Micro :=
  .done (.flag (timePast s.cfg.tHalf (BitVec.ofNat 32 r.arg0) (BitVec.ofNat 32 r.arg1))) s

/-- TCK.CHECK: K1 to K5, then X1 and X2 (R142): a check that fires advances the expiry by exactly one period. -/
def microTckCheck (t : Nat) (r : InFlight) (s : State) : Micro :=
  match r.ustep with
  | 6 => .goto (r.at 7 { r.temps with expiry := s.expiryOf t }) s
  | 7 =>
    let now := nowOf r.temps.reading
    let x := r.temps.expiry
    .done (.flag (timePast s.cfg.tHalf now x))
      (if timePast s.cfg.tHalf now x then s.setExpiry t (x + s.cfg.period t) else s)
  | j => (clkReadSub j r.temps s).andThen r fun t s => .goto (r.at 6 t) s

/-- TCK.RESET: K1 to K5, then X1 (R143). -/
def microTckReset (t : Nat) (r : InFlight) (s : State) : Micro :=
  match r.ustep with
  | 6 => .done .none (s.setExpiry t (nowOf r.temps.reading + s.cfg.period t))
  | j => (clkReadSub j r.temps s).andThen r fun t s => .goto (r.at 6 t) s

/-- TIMEPAST. -/
def execTimePast (s : State) : Host.Outcome State Fault Refusal := s.perform .timePast microTimePast 1

/-- TCK.CHECK `t`. -/
def execTckCheck (t : Nat) (s : State) : Host.Outcome State Fault Refusal :=
  s.perform (.tckCheck t) (microTckCheck t) 7

/-- TCK.RESET `t`. -/
def execTckReset (t : Nat) (s : State) : Host.Outcome State Fault Refusal :=
  s.perform (.tckReset t) (microTckReset t) 6

end Sys2Proof.Machine
end

