-- ==== Sys2Proof/Machine/Channel.lean ====
section
/-!
DEFINITION. The bounded channel: CH.WRITE, CH.READ, CH.PEEK, CH.DISCARD, CH.CLEAR, CH.FULL, CH.EMPTY (42_channel.md rules R160
to R167). Each operation is written once as a called operation, which the link operations call too.
-/

namespace Sys2Proof.Machine

/-- CH.WRITE, steps W1 to W5 (R161): on a full channel it returns at W3 and nothing is stored. -/
def chWriteSub (c : Nat) (v : Elem) (j : Nat) (t : Temps) (s : State) : Sub :=
  match j with
  | 1 => .more { t with head := s.head c } s
  | 2 => .more { t with tail := s.tail c } s
  | 3 => if isFull (s.cfg.cap c) t.tail t.head then .ret t s else .more t s
  | 4 => .more t (s.memWrite c (t.tail % s.cfg.cap c) v)
  | _ => .ret t (s.setTail c (cursorNext (s.cfg.cap c) t.tail))

/-- CH.READ, steps Q1 to Q5 (R162). -/
def chReadSub (c : Nat) (j : Nat) (t : Temps) (s : State) : Sub :=
  match j with
  | 1 => .more { t with tail := s.tail c } s
  | 2 => .more { t with head := s.head c } s
  | 3 => if isEmpty t.tail t.head then .raise (.readEmpty c) else .more t s
  | 4 => .more { t with elem := s.memRead c (t.head % s.cfg.cap c) } s
  | _ => .ret t (s.setHead c (cursorNext (s.cfg.cap c) t.head))

/-- CH.PEEK, steps Q1 to Q4 (R163). -/
def chPeekSub (c : Nat) (j : Nat) (t : Temps) (s : State) : Sub :=
  match j with
  | 1 => .more { t with tail := s.tail c } s
  | 2 => .more { t with head := s.head c } s
  | 3 => if isEmpty t.tail t.head then .raise (.peekEmpty c) else .more t s
  | _ => .ret { t with elem := s.memRead c (t.head % s.cfg.cap c) } s

/-- CH.DISCARD, steps Q1 to Q3 and Q5 (R164). -/
def chDiscardSub (c : Nat) (j : Nat) (t : Temps) (s : State) : Sub :=
  match j with
  | 1 => .more { t with tail := s.tail c } s
  | 2 => .more { t with head := s.head c } s
  | 3 => if isEmpty t.tail t.head then .raise (.discardEmpty c) else .more t s
  | _ => .ret t (s.setHead c (cursorNext (s.cfg.cap c) t.head))

/-- CH.CLEAR, steps L1 and L2 (R165): the storage is not touched. -/
def chClearSub (c : Nat) (j : Nat) (t : Temps) (s : State) : Sub :=
  match j with
  | 1 => .more t (s.setHead c 0)
  | _ => .ret t (s.setTail c 0)

/-- Steps F1 and F2 of CH.FULL and CH.EMPTY: the two cursors (R166, R167). -/
def cursorsSub (c : Nat) (j : Nat) (t : Temps) (s : State) : Sub :=
  match j with
  | 1 => .more { t with head := s.head c } s
  | _ => .ret { t with tail := s.tail c } s

/-- CH.WRITE (R161). It has no result. -/
def microChWrite (c : Nat) (r : InFlight) (s : State) : Micro :=
  (chWriteSub c (.raw r.arg0) r.ustep r.temps s).andThen r fun _ s => .done .none s

/-- CH.READ (R162), of any channel: LNK.READ is the same on `rx(k)`. -/
def microChRead (c : Nat) (r : InFlight) (s : State) : Micro :=
  (chReadSub c r.ustep r.temps s).andThen r fun t s => .done (.elem s.cfg c t.elem) s

/-- CH.PEEK (R163). -/
def microChPeek (c : Nat) (r : InFlight) (s : State) : Micro :=
  (chPeekSub c r.ustep r.temps s).andThen r fun t s => .done (.elem s.cfg c t.elem) s

/-- CH.DISCARD (R164). -/
def microChDiscard (c : Nat) (r : InFlight) (s : State) : Micro :=
  (chDiscardSub c r.ustep r.temps s).andThen r fun _ s => .done .none s

/-- CH.CLEAR (R165). -/
def microChClear (c : Nat) (r : InFlight) (s : State) : Micro :=
  (chClearSub c r.ustep r.temps s).andThen r fun _ s => .done .none s

/-- CH.FULL (R166), of any channel. -/
def microChFull (c : Nat) (r : InFlight) (s : State) : Micro :=
  (cursorsSub c r.ustep r.temps s).andThen r fun t s => .done (.flag (isFull (s.cfg.cap c) t.tail t.head)) s

/-- CH.EMPTY (R167), of any channel. -/
def microChEmpty (c : Nat) (r : InFlight) (s : State) : Micro :=
  (cursorsSub c r.ustep r.temps s).andThen r fun t s => .done (.flag (isEmpty t.tail t.head)) s

/-- CH.WRITE `c`. -/
def execChWrite (c : Nat) (s : State) : Host.Outcome State Fault Refusal := s.perform (.chWrite c) (microChWrite c) 5

/-- CH.READ `c`. -/
def execChRead (c : Nat) (s : State) : Host.Outcome State Fault Refusal := s.perform (.chRead c) (microChRead c) 5

/-- CH.PEEK `c`. -/
def execChPeek (c : Nat) (s : State) : Host.Outcome State Fault Refusal := s.perform (.chPeek c) (microChPeek c) 4

/-- CH.DISCARD `c`. -/
def execChDiscard (c : Nat) (s : State) : Host.Outcome State Fault Refusal :=
  s.perform (.chDiscard c) (microChDiscard c) 4

/-- CH.CLEAR `c`. -/
def execChClear (c : Nat) (s : State) : Host.Outcome State Fault Refusal := s.perform (.chClear c) (microChClear c) 2

/-- CH.FULL `c`. -/
def execChFull (c : Nat) (s : State) : Host.Outcome State Fault Refusal := s.perform (.chFull c) (microChFull c) 2

/-- CH.EMPTY `c`. -/
def execChEmpty (c : Nat) (s : State) : Host.Outcome State Fault Refusal := s.perform (.chEmpty c) (microChEmpty c) 2

end Sys2Proof.Machine
end

