-- ==== Sys2Proof/Machine/LinkRx.lean ====
section
/-!
DEFINITION. The receive side of a message link: LNK.READ, LNK.RXEMPTY, LNK.RXFULL, ISR.RX and the six ISR.ERR operations
(43_link_rx.md rules R190 to R204).
-/

namespace Sys2Proof.Machine

/-- LNK.READ: CH.READ of `rx(k)` (R191). -/
def microLnkRead (k : Nat) (r : InFlight) (s : State) : Micro := microChRead (s.cfg.rx k) r s

/-- LNK.RXEMPTY: CH.EMPTY of `rx(k)` (R192). -/
def microLnkRxEmpty (k : Nat) (r : InFlight) (s : State) : Micro := microChEmpty (s.cfg.rx k) r s

/-- LNK.RXFULL: CH.FULL of `rx(k)` (R193). -/
def microLnkRxFull (k : Nat) (r : InFlight) (s : State) : Micro := microChFull (s.cfg.rx k) r s

/-- ISR.RX (R194). The steps are numbered 1 to 3 for A1 to A3, 4 to 8 for A4 (K1 to K5, or step 4 alone on a link without
`TIMESTAMP`), 9 to 13 for A5 (W1 to W5, then back to A1), 14 for A6. -/
def microIsrRx (k : Nat) (r : InFlight) (s : State) : Micro :=
  let rx := s.cfg.rx k
  let t := r.temps
  match r.ustep with
  | 1 => .goto (r.at 2 { t with head := s.head rx }) s
  | 2 =>
    let t := { t with tail := s.tail rx }
    .goto (r.at (if isFull (s.cfg.cap rx) t.tail t.head then 14 else 3) t) s
  | 3 =>
    match s.hwRecv k with
    | none => .done .none s
    | some (f, s) => .goto (r.at 4 { t with frame := f }) s
  | 14 => .done .none (s.residue k)
  | j =>
    if j ≤ 8 then
      if s.cfg.timestamp k then
        (clkReadSub (j - 3) t s).andThen r fun t s =>
          .goto (r.at 9 { t with elem := .data (millis t.reading) t.frame }) s
      else .goto (r.at 9 { t with elem := .raw t.frame }) s
    else (chWriteSub rx t.elem (j - 8) t s).andThen r fun t s => .goto (r.at 1 t) s

/-- The micro-steps a whole ISR.RX may need: 13 for each frame pending, and 3 for the last pass (A1, A2 and A3 or A6). -/
def isrRxSteps (s : State) (k : Nat) : Nat := 13 * (s.peripheral k).rxq.length + 3

/-- The error handlers (R196 to R201): E1 (K1 to K5) is steps 1 to 5, E2 (W1 to W5) steps 6 to 10. -/
def microIsrErr (kind : ErrKind) (k : Nat) (r : InFlight) (s : State) : Micro :=
  if r.ustep ≤ 5 then
    (clkReadSub r.ustep r.temps s).andThen r fun t s =>
      .goto (r.at 6 { t with elem := .error (millis t.reading) kind }) s
  else
    (chWriteSub (s.cfg.rx k) r.temps.elem (r.ustep - 5) r.temps s).andThen r fun _ s => .done .none s

/-- LNK.READ `k`. -/
def execLnkRead (k : Nat) (s : State) : Host.Outcome State Fault Refusal := s.perform (.lnkRead k) (microLnkRead k) 5

/-- LNK.RXEMPTY `k`. -/
def execLnkRxEmpty (k : Nat) (s : State) : Host.Outcome State Fault Refusal :=
  s.perform (.lnkRxEmpty k) (microLnkRxEmpty k) 2

/-- LNK.RXFULL `k`. -/
def execLnkRxFull (k : Nat) (s : State) : Host.Outcome State Fault Refusal :=
  s.perform (.lnkRxFull k) (microLnkRxFull k) 2

/-- ISR.RX of link `k`. -/
def execIsrRx (k : Nat) (s : State) : Host.Outcome State Fault Refusal :=
  s.perform (.isrRx k) (microIsrRx k) (isrRxSteps s k)

/-- ISR.ERR.WARN of link `k` (R196). -/
def execIsrErrWarn (k : Nat) (s : State) : Host.Outcome State Fault Refusal :=
  s.perform (.isrErrWarn k) (microIsrErr .warning k) 10

/-- ISR.ERR.OVF of link `k` (R197). -/
def execIsrErrOvf (k : Nat) (s : State) : Host.Outcome State Fault Refusal :=
  s.perform (.isrErrOvf k) (microIsrErr .dataOverflow k) 10

/-- ISR.ERR.WAKE of link `k` (R198). -/
def execIsrErrWake (k : Nat) (s : State) : Host.Outcome State Fault Refusal :=
  s.perform (.isrErrWake k) (microIsrErr .wakeUp k) 10

/-- ISR.ERR.PASSIVE of link `k` (R199). -/
def execIsrErrPassive (k : Nat) (s : State) : Host.Outcome State Fault Refusal :=
  s.perform (.isrErrPassive k) (microIsrErr .errorPassive k) 10

/-- ISR.ERR.ARB of link `k` (R200). -/
def execIsrErrArb (k : Nat) (s : State) : Host.Outcome State Fault Refusal :=
  s.perform (.isrErrArb k) (microIsrErr .arbitrationLost k) 10

/-- ISR.ERR.BUS of link `k` (R201). -/
def execIsrErrBus (k : Nat) (s : State) : Host.Outcome State Fault Refusal :=
  s.perform (.isrErrBus k) (microIsrErr .busError k) 10

end Sys2Proof.Machine
end

