-- ==== Sys2Proof/Machine/LinkTx.lean ====
section
/-!
DEFINITION. The transmit side of a message link: LNK.WRITE, LNK.TXEMPTY, LNK.TXFULL, LNK.CLEAR, ISR.TXDONE (44_link_tx.md rules
R220 to R227).
-/

namespace Sys2Proof.Machine

/-- LNK.WRITE (R221): steps 1 to 5 are T1 to T5, steps 6 to 10 are T6 (W1 to W5), step 11 is T7. -/
def microLnkWrite (k : Nat) (r : InFlight) (s : State) : Micro :=
  let tx := s.cfg.tx k
  let t := r.temps
  match r.ustep with
  | 1 => .goto (r.at (if s.tx k = .busy then 4 else 2) { t with st := s.tx k }) s
  | 2 =>
    let (accepted, s) := s.hwXmit k r.arg0
    .goto (r.at (if accepted then 3 else 4) t) s
  | 3 => .done (.flag true) (if s.cfg.txMode k = .buffered then s.setTx k .busy else s)
  | 4 => .goto (r.at 5 { t with head := s.head tx }) s
  | 5 =>
    let t := { t with tail := s.tail tx }
    if isFull (s.cfg.cap tx) t.tail t.head then .done (.flag false) s else .goto (r.at 6 t) s
  | 11 => .done (.flag true) (if s.cfg.txMode k = .buffered ∧ t.st = .idle then s.setTx k .busy else s)
  | j => (chWriteSub tx (.raw r.arg0) (j - 5) t s).andThen r fun t s => .goto (r.at 11 t) s

/-- LNK.TXEMPTY: CH.EMPTY of `tx(k)` (R222). -/
def microLnkTxEmpty (k : Nat) (r : InFlight) (s : State) : Micro := microChEmpty (s.cfg.tx k) r s

/-- LNK.TXFULL: CH.FULL of `tx(k)` (R223). -/
def microLnkTxFull (k : Nat) (r : InFlight) (s : State) : Micro := microChFull (s.cfg.tx k) r s

/-- LNK.CLEAR, steps G1 to G5 (R224). A step of a side the link lacks does nothing (DESIGN CHOICE, log
entry 10). -/
def microLnkClear (k : Nat) (r : InFlight) (s : State) : Micro :=
  let t := r.temps
  match r.ustep with
  | 1 => .goto (r.at 2 t) (if s.cfg.hasRx k then s.setHead (s.cfg.rx k) 0 else s)
  | 2 => .goto (r.at 3 t) (if s.cfg.hasRx k then s.setTail (s.cfg.rx k) 0 else s)
  | 3 => .goto (r.at 4 t) (if s.cfg.hasTx k then s.setHead (s.cfg.tx k) 0 else s)
  | 4 => .goto (r.at 5 t) (if s.cfg.hasTx k then s.setTail (s.cfg.tx k) 0 else s)
  | _ => .done .none (if s.cfg.hasTx k then s.setTx k .idle else s)

/-- ISR.TXDONE (R225): steps 1 to 5 are D1 to D5, steps 6 to 8 are D6 (Q1, Q2, Q5 of CH.DISCARD). -/
def microIsrTxDone (k : Nat) (r : InFlight) (s : State) : Micro :=
  let tx := s.cfg.tx k
  let t := r.temps
  match r.ustep with
  | 1 => .goto (r.at 2 { t with tail := s.tail tx }) s
  | 2 =>
    let t := { t with head := s.head tx }
    .goto (r.at (if isEmpty t.tail t.head then 3 else 4) t) s
  | 3 => .done .none (if s.cfg.txMode k = .buffered then s.setTx k .idle else s)
  | 4 => .goto (r.at 5 { t with frame := (s.memRead tx (t.head % s.cfg.cap tx)).toBits s.cfg.payloadW }) s
  | 5 =>
    let (accepted, s) := s.hwXmit k t.frame
    if accepted then .goto (r.at 6 t) s else .done .none s
  | 6 => .goto (r.at 7 { t with tail := s.tail tx }) s
  | 7 => .goto (r.at 8 { t with head := s.head tx }) s
  | _ => .done .none (s.setHead tx (cursorNext (s.cfg.cap tx) t.head))

/-- LNK.WRITE `k`. -/
def execLnkWrite (k : Nat) (s : State) : Host.Outcome State Fault Refusal :=
  s.perform (.lnkWrite k) (microLnkWrite k) 11

/-- LNK.TXEMPTY `k`. -/
def execLnkTxEmpty (k : Nat) (s : State) : Host.Outcome State Fault Refusal :=
  s.perform (.lnkTxEmpty k) (microLnkTxEmpty k) 2

/-- LNK.TXFULL `k`. -/
def execLnkTxFull (k : Nat) (s : State) : Host.Outcome State Fault Refusal :=
  s.perform (.lnkTxFull k) (microLnkTxFull k) 2

/-- LNK.CLEAR `k`. -/
def execLnkClear (k : Nat) (s : State) : Host.Outcome State Fault Refusal :=
  s.perform (.lnkClear k) (microLnkClear k) 5

/-- ISR.TXDONE of link `k`. -/
def execIsrTxDone (k : Nat) (s : State) : Host.Outcome State Fault Refusal :=
  s.perform (.isrTxDone k) (microIsrTxDone k) 8

end Sys2Proof.Machine
end

