-- ==== Sys2Proof/Machine/Dispatch.lean ====
section
/-! DEFINITION. The dispatch of an operation to its meaning: one arm per constructor of `Instr`. -/

namespace Sys2Proof.Machine

def exec (i : Instr) (s : State) : Host.Outcome State Fault Refusal :=
  match i with
  | .clkUpdate => Sys2Proof.Machine.execClkUpdate s
  | .clkRead => Sys2Proof.Machine.execClkRead s
  | .clkReadMs => Sys2Proof.Machine.execClkReadMs s
  | .tckCheck t => Sys2Proof.Machine.execTckCheck t s
  | .tckReset t => Sys2Proof.Machine.execTckReset t s
  | .timePast => Sys2Proof.Machine.execTimePast s
  | .chWrite c => Sys2Proof.Machine.execChWrite c s
  | .chRead c => Sys2Proof.Machine.execChRead c s
  | .chPeek c => Sys2Proof.Machine.execChPeek c s
  | .chDiscard c => Sys2Proof.Machine.execChDiscard c s
  | .chClear c => Sys2Proof.Machine.execChClear c s
  | .chFull c => Sys2Proof.Machine.execChFull c s
  | .chEmpty c => Sys2Proof.Machine.execChEmpty c s
  | .lnkRead k => Sys2Proof.Machine.execLnkRead k s
  | .lnkWrite k => Sys2Proof.Machine.execLnkWrite k s
  | .lnkRxEmpty k => Sys2Proof.Machine.execLnkRxEmpty k s
  | .lnkRxFull k => Sys2Proof.Machine.execLnkRxFull k s
  | .lnkTxEmpty k => Sys2Proof.Machine.execLnkTxEmpty k s
  | .lnkTxFull k => Sys2Proof.Machine.execLnkTxFull k s
  | .lnkClear k => Sys2Proof.Machine.execLnkClear k s
  | .isrRx k => Sys2Proof.Machine.execIsrRx k s
  | .isrTxDone k => Sys2Proof.Machine.execIsrTxDone k s
  | .isrErrWarn k => Sys2Proof.Machine.execIsrErrWarn k s
  | .isrErrOvf k => Sys2Proof.Machine.execIsrErrOvf k s
  | .isrErrWake k => Sys2Proof.Machine.execIsrErrWake k s
  | .isrErrPassive k => Sys2Proof.Machine.execIsrErrPassive k s
  | .isrErrArb k => Sys2Proof.Machine.execIsrErrArb k s
  | .isrErrBus k => Sys2Proof.Machine.execIsrErrBus k s

end Sys2Proof.Machine
end

