-- ==== Sys2Proof/Machine/Schedule.lean ====
section
/-!
DEFINITION. How work reaches the block and in what order it runs: the two contexts and their preemption rule (60_exceptions.md
rules R257 to R265), the command word on a request port (30_encoding.md rule R90), and the moves of the environment (R53, R270,
R280).
-/

namespace Sys2Proof.Machine

/-- The micro-steps of an operation: what `advance` runs for the operation in flight. -/
def microOf (i : Instr) : InFlight → State → Micro :=
  match i with
  | .clkUpdate => microClkUpdate
  | .clkRead => microClkRead
  | .clkReadMs => microClkReadMs
  | .tckCheck t => microTckCheck t
  | .tckReset t => microTckReset t
  | .timePast => microTimePast
  | .chWrite c => microChWrite c
  | .chRead c => microChRead c
  | .chPeek c => microChPeek c
  | .chDiscard c => microChDiscard c
  | .chClear c => microChClear c
  | .chFull c => microChFull c
  | .chEmpty c => microChEmpty c
  | .lnkRead k => microLnkRead k
  | .lnkWrite k => microLnkWrite k
  | .lnkRxEmpty k => microLnkRxEmpty k
  | .lnkRxFull k => microLnkRxFull k
  | .lnkTxEmpty k => microLnkTxEmpty k
  | .lnkTxFull k => microLnkTxFull k
  | .lnkClear k => microLnkClear k
  | .isrRx k => microIsrRx k
  | .isrTxDone k => microIsrTxDone k
  | .isrErrWarn k => microIsrErr .warning k
  | .isrErrOvf k => microIsrErr .dataOverflow k
  | .isrErrWake k => microIsrErr .wakeUp k
  | .isrErrPassive k => microIsrErr .errorPassive k
  | .isrErrArb k => microIsrErr .arbitrationLost k
  | .isrErrBus k => microIsrErr .busError k

/-- One micro-step of the operation that has the processor: that of `IRQ` if it has one in flight, otherwise that of `FG`
(R261, R262, R265). With none in flight the block waits (R290). -/
def State.advance (s : State) : Host.Outcome State Fault Refusal :=
  match s.inflight.irq with
  | some r => s.microStep (microOf r.instr) .irq r
  | none =>
    match s.inflight.fg with
    | some r => s.microStep (microOf r.instr) .fg r
    | none => .next s

/-- A context may start an operation: `IRQ` at any micro-step boundary at which it has none in flight, `FG` when neither has
(R257, R261, R264, R265). -/
def State.ready (s : State) (x : Ctx) : Bool :=
  match x with
  | .irq => s.inflight.irq.isNone
  | .fg => s.inflight.irq.isNone && s.inflight.fg.isNone

/-- The operation `i` starts on behalf of `req`: run whole, or accepted and held. -/
def State.start (s : State) (whole : Bool) (req : Request) (i : Instr) : Host.Outcome State Fault Refusal :=
  if whole then exec i { s with req := req } else ({ s with req := req }).issue i

/-- A command word on a request port: a word that is no operation is refused (R98, R99). -/
def State.command (s : State) (whole : Bool) (req : Request) (word : CmdWord) : Host.Outcome State Fault Refusal :=
  match decode word with
  | .ok i => s.start whole req i
  | .error _ => .next ({ s with req := req }.refuse .illegalCommand)

/-- A hardware event: the handler of an attached event starts; any other event has no effect (R256, R260). -/
def State.serve (s : State) (whole : Bool) (k : Nat) (ev : EventKind) : Host.Outcome State Fault Refusal :=
  if s.cfg.attached k ev then s.start whole ⟨.dispatcher, 0, 0⟩ (ev.handler k) else .next s

/-- Replaces the peripheral of link `k` by its image under `f`. -/
def State.onPeripheral (s : State) (k : Nat) (f : Peripheral → Peripheral) : State :=
  s.setPeripheral k (f (s.peripheral k))

/-- One move. A request or an event that its context cannot take yet waits at the head of the script while the operation in
flight takes its next micro-step. DESIGN CHOICE, log entry 4. -/
def State.move (s : State) (m : Move) (rest : List Move) : Host.Outcome State Fault Refusal :=
  match m with
  | .request whole x word a0 a1 =>
    if s.ready x then State.command { s with script := rest } whole ⟨.port x, a0, a1⟩ word else s.advance
  | .event whole k ev =>
    if s.ready .irq then State.serve { s with script := rest } whole k ev else s.advance
  | .advance => State.advance { s with script := rest }
  | .elapse us => .next { s with tau := s.tau + us, script := rest }
  | .arrive k f =>
    .next (State.onPeripheral { s with script := rest } k fun h => { h with rxq := h.rxq ++ [f % 2 ^ s.cfg.frameW] })
  | .answer k b => .next (State.onPeripheral { s with script := rest } k fun h => { h with accepts := b })
  | .transmitting k b => .next (State.onPeripheral { s with script := rest } k fun h => { h with txActive := b })

/-- The move that runs a given operation whole: an event for an interrupt entry, otherwise a request on a port whose context
may issue it. -/
def fetchMove (p : Params) (w : CmdWord) : Move :=
  match decode w with
  | .error _ => .request true .fg w 0 0
  | .ok i =>
    match i.event with
    | some (k, ev) => if p.attached k ev then .event true k ev else .request true .fg w 0 0
    | none => .request true (if i.portAllows p .irq && !i.portAllows p .fg then .irq else .fg) w 0 0

/-- `inflight` with the contexts free that the move `m` needs free. -/
def freedFor (m : Move) (q : PerCtx (Option InFlight)) : PerCtx (Option InFlight) :=
  match m with
  | .request _ .fg _ _ _ => ⟨none, none⟩
  | _ => ⟨q.fg, none⟩

end Sys2Proof.Machine
end

