-- ==== Sys2Proof/Machine/Step.lean ====
section
/-!
DEFINITION. One step of the machine: the next move of the environment, or, when none is due, the next micro-step of the
operation in flight; and the placing of one command word where the next step finds it.
-/

namespace Sys2Proof.Machine

/-- One step. -/
def step (s : State) : Host.Outcome State Fault Refusal :=
  match s.script with
  | [] => s.advance
  | m :: rest => s.move m rest

/-- `s` with the command word of `nbits` bits `w` presented so that the next step runs it: as the next move, with operands 0,
and with the context that is to run it idle. Log entry 5. -/
def State.withFetchWord (s : State) (nbits w : Nat) : State :=
  let m := fetchMove s.cfg (BitVec.ofNat 16 (w % 2 ^ nbits))
  { s with inflight := freedFor m s.inflight, script := m :: s.script }

end Sys2Proof.Machine
end

