-- ==== Sys2Proof/Safety.lean ====
section
/-!
DEFINITION. What the claims call a sound state: the registers have the shape the parameters give them; every channel keeps its
occupancy invariant (10_state.md rule R38) and every operation in flight holds temporaries that are stale in the safe direction
only (42_channel.md rule R169); every element has the type of its channel (R44); the transmit state follows its variant (R46);
and the true time the published clock slot stands for (R24).
-/

namespace Sys2Proof.Machine

/-- The registers have the counts and sizes the parameters give them (R54). -/
def State.shaped (s : State) : Prop :=
  s.expiry.length = s.cfg.nTck ∧ s.chans.length = s.cfg.nCh ∧ s.txState.length = s.cfg.nLnk ∧
    s.hw.length = s.cfg.nLnk ∧ ∀ c < s.cfg.nCh, (s.chan c).store.length = s.cfg.cap c

/-- Both cursors of channel `c` are in `[0, 2*CAP)` (R36, R37). -/
def State.cursorsIn (s : State) (c : Nat) : Prop :=
  s.head c < curMod (s.cfg.cap c) ∧ s.tail c < curMod (s.cfg.cap c)

/-- `occ(c)` (R38). -/
def State.occupancy (s : State) (c : Nat) : Nat := occ (s.cfg.cap c) (s.tail c) (s.head c)

/-- The occupancy invariant of channel `c`: `0 <= occ(c) <= CAP[c]` (R38). -/
def State.channelOk (s : State) (c : Nat) : Prop := s.cursorsIn c ∧ s.occupancy c ≤ s.cfg.cap c

/-- Channel `c` is usable: it exists, its capacity is at least 1, its storage has that size and its occupancy invariant
holds. -/
def State.channelSound (s : State) (c : Nat) : Prop :=
  c < s.chans.length ∧ 1 ≤ s.cfg.cap c ∧ (s.chan c).store.length = s.cfg.cap c ∧ s.channelOk c

/-- A producer's operation on channel `c` about to take step `W<j>`: the `head` it loaded makes the channel look at least as
full as it is (R169), its `tail` is current, and past W3 it saw room. -/
def State.writerOk (s : State) (c j : Nat) (t : Temps) : Prop :=
  (2 ≤ j → t.head < curMod (s.cfg.cap c) ∧ occ (s.cfg.cap c) (s.tail c) t.head ≤ s.cfg.cap c ∧
    s.occupancy c ≤ occ (s.cfg.cap c) (s.tail c) t.head) ∧
  (3 ≤ j → t.tail = s.tail c) ∧
  (4 ≤ j → isFull (s.cfg.cap c) t.tail t.head = false)

/-- A consumer's operation on channel `c` about to take step `Q<j>` (counting the steps of its rule): the `tail` it loaded
makes the channel look at most as full as it is (R169), its `head` is current, and past Q3 it saw an element. -/
def State.readerOk (s : State) (c j : Nat) (t : Temps) : Prop :=
  (2 ≤ j → t.tail < curMod (s.cfg.cap c) ∧ occ (s.cfg.cap c) t.tail (s.head c) ≤ s.occupancy c) ∧
  (3 ≤ j → t.head = s.head c) ∧
  (4 ≤ j → isEmpty t.tail t.head = false)

/-- A CLK.UPDATE about to take step `U<j>` (R120): what it loaded is still the published slot, which it does not write, and from
U6 and from U7 on each field of the other slot is written, before the store of `idx` publishes it (R23, R73). -/
def State.updaterOk (s : State) (j : Nat) (t : Temps) : Prop :=
  (3 ≤ j → t.cur = s.idx) ∧
  (4 ≤ j → t.last = (s.slot s.idx).last) ∧
  (5 ≤ j → t.epoch = (s.slot s.idx).epoch) ∧
  (6 ≤ j → (s.slot (1 - s.idx)).epoch = rollover (s.slot s.idx).epoch (s.slot s.idx).last t.sample) ∧
  (7 ≤ j → (s.slot (1 - s.idx)).last = t.sample)

/-- What the temporaries of the operation in flight `r` may hold, by its next micro-step. -/
def State.tempsOk (s : State) (r : InFlight) : Prop :=
  match r.instr with
  | .clkUpdate => r.ustep ≤ 7 ∧ s.updaterOk r.ustep r.temps
  | .chWrite c => r.ustep ≤ 5 ∧ s.writerOk c r.ustep r.temps
  | .chRead c | .chPeek c | .chDiscard c => s.readerOk c r.ustep r.temps
  | .chClear c => 2 ≤ r.ustep → s.head c = 0
  | .lnkRead k => s.readerOk (s.cfg.rx k) r.ustep r.temps
  | .lnkWrite k =>
    r.ustep ≤ 11 ∧ (6 ≤ r.ustep → r.ustep ≤ 10 → s.writerOk (s.cfg.tx k) (r.ustep - 5) r.temps)
  | .lnkClear k =>
    (s.cfg.hasRx k = true → (2 ≤ r.ustep → s.head (s.cfg.rx k) = 0) ∧ (3 ≤ r.ustep → s.tail (s.cfg.rx k) = 0)) ∧
    (s.cfg.hasTx k = true → (4 ≤ r.ustep → s.head (s.cfg.tx k) = 0) ∧ (5 ≤ r.ustep → s.tail (s.cfg.tx k) = 0))
  | .isrRx k =>
    r.ustep ≤ 14 ∧ (9 ≤ r.ustep → r.ustep ≤ 13 → s.writerOk (s.cfg.rx k) (r.ustep - 8) r.temps)
  | .isrErrWarn k | .isrErrOvf k | .isrErrWake k | .isrErrPassive k | .isrErrArb k | .isrErrBus k =>
    r.ustep ≤ 10 ∧ (6 ≤ r.ustep → s.writerOk (s.cfg.rx k) (r.ustep - 5) r.temps)
  | .isrTxDone k =>
    (r.ustep = 2 → r.temps.tail = s.tail (s.cfg.tx k)) ∧
    (4 ≤ r.ustep → s.tail (s.cfg.tx k) ≠ s.head (s.cfg.tx k)) ∧
    (8 ≤ r.ustep → r.temps.head = s.head (s.cfg.tx k))
  | .clkRead | .clkReadMs | .tckCheck _ | .tckReset _ | .timePast | .chFull _ | .chEmpty _ | .lnkRxEmpty _
  | .lnkRxFull _ | .lnkTxEmpty _ | .lnkTxFull _ => True

/-- The operation in flight in `x` is one that was accepted there (R99, R266), at a step of its rule. -/
def State.inFlightOk (s : State) (x : Ctx) (r : InFlight) : Prop :=
  r.instr.legal s.cfg = true ∧
    (r.instr.portAllows s.cfg x = true ∨ (x = .irq ∧ r.instr.event.isSome = true)) ∧
    1 ≤ r.ustep ∧ s.tempsOk r

/-- The invariant of the machine at every micro-step boundary. -/
structure State.Sound (s : State) : Prop where
  params : s.cfg.wf = true
  shape : s.shaped
  cursors : ∀ c < s.cfg.nCh, s.cursorsIn c
  /-- R38: at every micro-step boundary outside a CH.CLEAR. -/
  occupied : ∀ c < s.cfg.nCh, c ∉ s.clearing → s.occupancy c ≤ s.cfg.cap c
  flight : ∀ x r, s.inflight.get x = some r → s.inFlightOk x r
  /-- R165: nothing of `IRQ` uses a channel while it is being cleared. -/
  quiet : ∀ r, s.inflight.irq = some r → ∀ c ∈ r.instr.uses s.cfg, c ∉ s.clearing

/-- What an operation in flight carries to a channel has the channel's element type. -/
def State.cargoTyped (s : State) (r : InFlight) : Prop :=
  match r.instr with
  | .chWrite c => r.arg0 < 2 ^ s.cfg.elemW c
  | .lnkWrite _ => r.arg0 < 2 ^ s.cfg.frameW
  | .isrRx k =>
    (4 ≤ r.ustep → r.ustep ≤ 8 → r.temps.frame < 2 ^ s.cfg.frameW) ∧
    (9 ≤ r.ustep → r.ustep ≤ 13 → r.temps.elem.fits s.cfg (s.cfg.rx k) = true)
  | .isrErrWarn k | .isrErrOvf k | .isrErrWake k | .isrErrPassive k | .isrErrArb k | .isrErrBus k =>
    6 ≤ r.ustep → r.temps.elem.fits s.cfg (s.cfg.rx k) = true
  | _ => True

/-- Every stored element has the type and width of its channel, and every pending frame is a frame (R44, R96, U13). -/
structure State.Typed (s : State) : Prop where
  store : ∀ c < s.cfg.nCh, ∀ e ∈ (s.chan c).store, e.fits s.cfg c = true
  pending : ∀ k, ∀ f ∈ (s.peripheral k).rxq, f < 2 ^ s.cfg.frameW
  cargo : ∀ x r, s.inflight.get x = some r → s.cargoTyped r

/-- In the `fire_and_forget` variant the transmit state is Idle (R46, R220). -/
def State.fireAndForgetIdle (s : State) : Prop :=
  ∀ k, s.cfg.txMode k = .fireAndForget → s.tx k = .idle

/-- A buffered link with frames waiting is Busy (R227). -/
def State.waitingIsBusy (s : State) : Prop :=
  ∀ k < s.cfg.nLnk, s.cfg.hasTx k = true → s.cfg.txMode k = .buffered →
    s.tail (s.cfg.tx k) ≠ s.head (s.cfg.tx k) → s.tx k = .busy

/-- The published slot stands for the true time `tauU` (R24). -/
def State.clockAt (s : State) (tauU : Nat) : Prop :=
  (s.slot s.idx).last = BitVec.ofNat 32 tauU ∧ (s.slot s.idx).epoch = BitVec.ofNat 32 (tauU / 2 ^ 32)

/-- The 64-bit microsecond reading of the clock in state `s`, as a number: the published slot's rollover count, one more (modulo
2^32) when the counter reads below the recorded sample, in the high bits, and the counter in the low bits (R97, R121). -/
def State.readingNat (s : State) : Nat :=
  let cur := if s.idx = 0 then s.slot0 else s.slot1
  (if s.tau % 2 ^ 32 < cur.last.toNat then (cur.epoch.toNat + 1) % 2 ^ 32 else cur.epoch.toNat) * 2 ^ 32 + s.tau % 2 ^ 32

/-- The millisecond reading (R122). -/
def State.readingMs (s : State) : Clock := BitVec.ofNat 64 (s.readingNat / 1000)

/-- Runs clock operations one after another: before each, the environment's time advances by its number; then CLK.UPDATE by the
designated updater (`none`) or CLK.READ on the port of a context. Answers the readings in order; `none` if an operation does not
complete or a read presents no value. -/
def State.clockRun : List (Nat × Option Ctx) → State → Option (List Nat)
  | [], _ => some []
  | (us, none) :: rest, s =>
    match exec .clkUpdate { s with tau := s.tau + us, req := ⟨.port s.cfg.clkUpdater, 0, 0⟩ } with
    | .next t => State.clockRun rest t
    | _ => none
  | (us, some x) :: rest, s =>
    match exec .clkRead { s with tau := s.tau + us, req := ⟨.port x, 0, 0⟩ } with
    | .next t =>
      match t.result.get x with
      | .res _ v => (State.clockRun rest t).map (v :: ·)
      | _ => none
    | _ => none

/-- The update interval of R300 along such a sequence: from the sample of the published update, made at `tauU`, to each later sample
that uses it the time advances by less than 2^32, and it stays below 2^64. -/
def clockSpaced : Nat → Nat → List (Nat × Option Ctx) → Prop
  | _, _, [] => True
  | tauU, tau, (us, reader) :: rest =>
    tau + us - tauU < 2 ^ 32 ∧ tau + us < 2 ^ 64 ∧
      clockSpaced (if reader = none then tau + us else tauU) (tau + us) rest

/-- `TP(cur, ref)` on numbers, as rule R140 writes it. -/
abbrev Past (tHalf cur ref : Nat) : Prop := (ref < cur ∧ cur - ref < tHalf) ∨ (cur < ref ∧ tHalf < ref - cur)

/-- What ISR.RX stores for a frame of link `k` (R194 step A4). -/
def State.wrapped (s : State) (k f : Nat) : Elem :=
  if s.cfg.timestamp k then .data s.readingMs f else .raw f

/-- The operation `i` was presented to the machine in a way that lets it start: on a port whose context may issue it, or by the
dispatcher for an interrupt entry (R99, R266), and, in `IRQ`, with no clear in flight of a channel it uses (R165). -/
def State.mayStart (s : State) (i : Instr) : Prop :=
  i.legal s.cfg = true ∧ i.roleAllows s.cfg s.req.src = true ∧
    (s.req.src.ctx = .irq → ∀ c ∈ i.uses s.cfg, c ∉ s.clearing)

/-- Polls ticker `t`: before each TCK.CHECK the environment's time advances by the next number of the list. Answers the state
after the last check and how many checks fired; `none` if a check does not complete. -/
def State.poll (t : Nat) : List Nat → State → Option (State × Nat)
  | [], s => some (s, 0)
  | us :: rest, s =>
    match exec (.tckCheck t) { s with tau := s.tau + us } with
    | .next s' =>
      (State.poll t rest s').map fun (s'', n) =>
        (s'', n + if s'.result.get s.req.src.ctx = .flag true then 1 else 0)
    | _ => none

end Sys2Proof.Machine
end

