-- ==== Sys2Proof/Certificates/Slice0/Obligations.lean ====
section
/-!
DEFINITION. The statements for the provers. Each docstring names the rules of spec/ it formalises. In the statements about one
operation the hypotheses are what rules R99, R266 and R165 ask of the request, and the next state is written out as an update of
the state before, so that every field it does not name is unchanged.
-/

open Sys2Proof Sys2Proof.Machine

/-! ## Encoding -/

/-- R90, R94: decoding the command word of an operation whose instance fits the field gives the operation back. -/
def Obligations.DecodeEncodeRoundTrip : Prop := ∀ i : Instr, i.wf = true → decode (encode i) = .ok i

/-- R90, R94: a word that decodes is the command word of what it decodes to, so each operation has one word. -/
def Obligations.EncodeDecodeRoundTrip : Prop :=
  ∀ (w : CmdWord) (i : Instr), decode w = .ok i → i.wf = true ∧ encode i = w

/-- R94: the opcode map. Bits 7:0 select the operation and bits 15:8 take no part in it; in the four rows without an instance
number they must be 0 (R99). -/
def Obligations.OpcodeMapRows : Prop :=
  ∀ inst : BitVec 8,
    let n := inst.toNat
    ((∀ row ∈ [(0x00#8, Instr.clkUpdate), (0x01#8, .clkRead), (0x02#8, .clkReadMs), (0x12#8, .timePast)],
      decode (inst ++ row.1) = if n = 0 then .ok row.2 else .error .instanceNotZero) ∧
    (∀ row ∈ [(0x10#8, Instr.tckCheck n), (0x11#8, .tckReset n), (0x20#8, .chWrite n), (0x21#8, .chRead n),
        (0x22#8, .chPeek n), (0x23#8, .chDiscard n), (0x24#8, .chClear n), (0x25#8, .chFull n), (0x26#8, .chEmpty n),
        (0x30#8, .lnkRead n), (0x31#8, .lnkWrite n), (0x32#8, .lnkRxEmpty n), (0x33#8, .lnkRxFull n),
        (0x34#8, .lnkTxEmpty n), (0x35#8, .lnkTxFull n), (0x36#8, .lnkClear n), (0x40#8, .isrRx n),
        (0x41#8, .isrTxDone n), (0x48#8, .isrErrWarn n), (0x49#8, .isrErrOvf n), (0x4A#8, .isrErrWake n),
        (0x4B#8, .isrErrPassive n), (0x4C#8, .isrErrArb n), (0x4D#8, .isrErrBus n)],
      decode (inst ++ row.1) = .ok row.2))

/-- The bytes R98 reserves. -/
def reservedOpcode (b : Nat) : Prop :=
  (0x03 ≤ b ∧ b ≤ 0x0F) ∨ (0x13 ≤ b ∧ b ≤ 0x1F) ∨ (0x27 ≤ b ∧ b ≤ 0x2F) ∨ (0x37 ≤ b ∧ b ≤ 0x3F) ∨
    (0x42 ≤ b ∧ b ≤ 0x47) ∨ (0x4E ≤ b ∧ b ≤ 0xFF)

/-- R98: exactly the listed opcodes are reserved, and a request with one of them, on either port, changes no register, presents no
result and is recorded as `IllegalCommand`. The only other words that decode to no operation are those of CLK.* and TIMEPAST with a
nonzero instance, and a request with one is refused in the same way (R99). -/
def Obligations.ReservedWordRefused : Prop :=
  (∀ w : CmdWord, decode w = .error .reservedOpcode ↔ reservedOpcode (w.toNat % 256)) ∧
  (∀ w : CmdWord, decode w = .error .instanceNotZero ↔ w.toNat % 256 ∈ [0x00, 0x01, 0x02, 0x12] ∧ w.toNat / 256 ≠ 0) ∧
  ∀ (s : State) (whole : Bool) (x : Ctx) (w : CmdWord) (a0 a1 : Nat) (rest : List Move) (e : DecodeError),
    decode w = .error e → s.ready x = true → s.script = .request whole x w a0 a1 :: rest →
    step s = .next { s with
      script := rest
      req := ⟨.port x, a0, a1⟩
      result := s.result.set x .none
      refusals := .illegalCommand :: s.refusals }

/-- Words of table V-ENC (95_test_vectors.md), written out bit by bit as `inst`, `unit`, `op` (R90), decode to their
operations. -/
def Obligations.SpecWordsDecode : Prop :=
  decode 0b0000000000000000 = .ok .clkUpdate ∧ decode 0b0000000000000010 = .ok .clkReadMs ∧
  decode 0b0000000100010000 = .ok (.tckCheck 1) ∧ decode 0b0000000000010010 = .ok .timePast ∧
  decode 0b0000001000100000 = .ok (.chWrite 2) ∧ decode 0b0000000100100100 = .ok (.chClear 1) ∧
  decode 0b0000000000110001 = .ok (.lnkWrite 0) ∧ decode 0b0000000100110000 = .ok (.lnkRead 1) ∧
  decode 0b0000000101000001 = .ok (.isrTxDone 1) ∧ decode 0b0000000101001101 = .ok (.isrErrBus 1) ∧
  decode 0b0000000100000001 = .error .instanceNotZero

/-! ## Reset -/

/-- R55, R56, R46, R290: after reset `idx` is 0, slot 0 is {0, 0}, every channel has both cursors 0, every transmit state is Idle,
and no operation is in flight, whatever the parameters. -/
def Obligations.ResetRegisters : Prop :=
  ∀ p : Params,
    let s := State.resetWith p
    s.cfg = p ∧ s.idx = 0 ∧ s.slot0 = ⟨0, 0⟩ ∧ (∀ c, s.head c = 0 ∧ s.tail c = 0) ∧ (∀ k, s.tx k = .idle) ∧
      s.inflight.fg = none ∧ s.inflight.irq = none

/-- The reset state meets the machine's invariants, for every instance the parameters describe, and those of `State.reset`, the
model's choice (log entry 1), do describe one. That the peripherals hold no frame is the model's choice (log entry 3). -/
def Obligations.ResetSound : Prop :=
  Config.sample.wf = true ∧
  ∀ p : Params, p.wf = true →
    (State.resetWith p).Sound ∧ (State.resetWith p).Typed ∧ (State.resetWith p).fireAndForgetIdle ∧
      (State.resetWith p).waitingIsBusy ∧ (State.resetWith p).clockAt 0

/-! ## How work reaches the block

That the environment's choices stand in the state as a list of moves, `script`, and that an operation may be run whole or held, is
the model's form of R53 and R257 (log entries 4 and 11). -/

/-- R90, R264, R265: when the context is ready, a step at a request whose word decodes to an operation is `exec` of that operation,
with the request on the ports and the move taken (the moves: the model's choice, log entry 4). -/
def Obligations.StepRunsRequestedWord : Prop :=
  ∀ (s : State) (x : Ctx) (w : CmdWord) (a0 a1 : Nat) (rest : List Move) (i : Instr),
    s.ready x = true → s.script = .request true x w a0 a1 :: rest → decode w = .ok i →
    step s = exec i { s with script := rest, req := ⟨.port x, a0, a1⟩ }

/-- R256, R257, R260: when `IRQ` is idle, a step at an event of an attached kind is `exec` of the handler of that link and kind,
issued by the dispatcher; an event of a kind that is not attached has no effect (the moves: the model's choice, log entry 4). -/
def Obligations.StepServesEvent : Prop :=
  ∀ (s : State) (k : Nat) (ev : EventKind) (rest : List Move),
    s.inflight.irq = none → s.script = .event true k ev :: rest →
    (s.cfg.attached k ev = true →
      step s = exec (ev.handler k) { s with script := rest, req := ⟨.dispatcher, 0, 0⟩ }) ∧
    (s.cfg.attached k ev = false → step s = .next { s with script := rest })

/-- R94, R95: the operation the dispatcher starts for an event is the one its command word `0x40 + event kind` encodes. -/
def Obligations.EventWordIsHandler : Prop :=
  ∀ (k : Nat) (ev : EventKind), k < 256 →
    decode (BitVec.ofNat 8 k ++ BitVec.ofNat 8 (0x40 + ev.code)) = .ok (ev.handler k)

/-- R10, R50, R260, R262: an operation accepted and held, and then run by micro-steps with no move of the environment between them,
ends exactly as the same operation run whole: the same next state, or the same fault. This for a request on either port, and for an
event and the handler it starts. Running whole is the model's choice (log entry 11); this says that it adds nothing. -/
def Obligations.HeldRunEqualsWholeRun : Prop :=
  (∀ (s : State) (x : Ctx) (w : CmdWord) (a0 a1 : Nat) (rest : List Move), s.ready x = true →
    ∃ n, Sys2Proof.core.run (n + 1)
        { s with script := .request false x w a0 a1 :: (List.replicate n .advance ++ rest) } =
      step { s with script := .request true x w a0 a1 :: rest }) ∧
  ∀ (s : State) (k : Nat) (ev : EventKind) (rest : List Move), s.ready .irq = true →
    ∃ n, Sys2Proof.core.run (n + 1) { s with script := .event false k ev :: (List.replicate n .advance ++ rest) } =
      step { s with script := .event true k ev :: rest }

/-- R261: while an operation is in flight in `IRQ`, no step changes the foreground's in-flight record or result port: the
foreground does not run. -/
def Obligations.ForegroundWaitsForInterrupt : Prop :=
  ∀ (s t : State) (r : InFlight), s.inflight.irq = some r → step s = .next t →
    t.inflight.fg = s.inflight.fg ∧ t.result.fg = s.result.fg

/-- R262, R265: an operation or a handler run whole in `IRQ` leaves the foreground's record as it was. -/
def Obligations.HandlerKeepsForegroundRecord : Prop :=
  ∀ (s t : State) (i : Instr), s.req.src.ctx = .irq → exec i s = .next t →
    t.inflight.fg = s.inflight.fg ∧ t.result.fg = s.result.fg

/-! ## Refusals and faults -/

/-- R252, R258: a refused request, whatever the operation and the reason, changes no register and presents no result; the reason is
recorded. The reasons are tested in the order IllegalCommand, DirectIsrCall, RoleViolation. How the record is kept is the model's
choice (log entry 7). -/
def Obligations.RefusedRequestChangesNothing : Prop :=
  ∀ (s : State) (i : Instr),
    let refused (code : RefusalCode) := exec i s = .next { s with
      result := s.result.set s.req.src.ctx .none
      refusals := code :: s.refusals }
    (i.legal s.cfg = false → refused .illegalCommand) ∧
    (i.legal s.cfg = true → i.event.isSome = true → s.req.src ≠ .dispatcher → refused .directIsrCall) ∧
    (i.legal s.cfg = true → (i.event.isSome = true → s.req.src = .dispatcher) →
      i.roleAllows s.cfg s.req.src = false → refused .roleViolation)

/-- R99: the instance numbers and link sides a request must have, operation by operation. -/
def Obligations.LegalInstances : Prop :=
  ∀ (p : Params) (n : Nat),
    (∀ i ∈ [Instr.clkUpdate, .clkRead, .clkReadMs, .timePast], i.legal p = true) ∧
    (∀ i ∈ [Instr.tckCheck n, .tckReset n], i.legal p = true ↔ n < p.tcks.length) ∧
    (∀ i ∈ [Instr.chWrite n, .chRead n, .chPeek n, .chDiscard n, .chClear n, .chFull n, .chEmpty n],
      i.legal p = true ↔ n < p.chans.length) ∧
    (∀ i ∈ [Instr.lnkRead n, .lnkRxEmpty n, .lnkRxFull n, .isrRx n],
      i.legal p = true ↔ ∃ l, p.links[n]? = some l ∧ l.hasRx = true) ∧
    (∀ i ∈ [Instr.lnkWrite n, .lnkTxEmpty n, .lnkTxFull n, .isrTxDone n],
      i.legal p = true ↔ ∃ l, p.links[n]? = some l ∧ l.hasTx = true) ∧
    ((Instr.lnkClear n).legal p = true ↔ n < p.links.length) ∧
    (∀ i ∈ [Instr.isrErrWarn n, .isrErrOvf n, .isrErrWake n, .isrErrPassive n, .isrErrArb n, .isrErrBus n],
      i.legal p = true ↔ ∃ l, p.links[n]? = some l ∧ l.hasRx = true ∧ l.timestamp = true)

/-- R266, U10: a request from a context the table does not allow for it is refused as `RoleViolation` and changes nothing. A channel
operation on a link-owned channel is among them; that it is this refusal is the model's choice (log entry 6). -/
def Obligations.WrongContextRefused : Prop :=
  ∀ (s : State) (x : Ctx) (n : Nat), s.req.src = .port x →
    let refused (i : Instr) := exec i s = .next { s with
      result := s.result.set x .none
      refusals := .roleViolation :: s.refusals }
    (x ≠ s.cfg.clkUpdater → refused .clkUpdate) ∧
    (n < s.cfg.nTck → x ≠ (s.cfg.tck n).owner → refused (.tckCheck n) ∧ refused (.tckReset n)) ∧
    (n < s.cfg.nCh → s.cfg.kind n = .standAlone →
      (x ≠ s.cfg.prod n → refused (.chWrite n)) ∧
      (x ≠ s.cfg.cons n → refused (.chRead n) ∧ refused (.chPeek n) ∧ refused (.chDiscard n)) ∧
      (x ≠ s.cfg.prod n → x ≠ s.cfg.cons n → refused (.chFull n) ∧ refused (.chEmpty n)) ∧
      (x = .irq → refused (.chClear n))) ∧
    (n < s.cfg.nCh → s.cfg.kind n ≠ .standAlone →
      refused (.chWrite n) ∧ refused (.chRead n) ∧ refused (.chPeek n) ∧ refused (.chDiscard n) ∧
        refused (.chClear n) ∧ refused (.chFull n) ∧ refused (.chEmpty n)) ∧
    (x = .irq → n < s.cfg.nLnk →
      (s.cfg.hasRx n = true → refused (.lnkRead n) ∧ refused (.lnkRxEmpty n) ∧ refused (.lnkRxFull n)) ∧
      (s.cfg.hasTx n = true → refused (.lnkWrite n) ∧ refused (.lnkTxEmpty n) ∧ refused (.lnkTxFull n)) ∧
      refused (.lnkClear n))

/-- R250: the only faults of a whole operation. An operation that reads, peeks or discards faults on a channel it sees empty, with its
own code and the channel's number; an operation started in `IRQ` faults when it meets a clear in flight; no other operation
faults. -/
def Obligations.OnlyTheseFaults : Prop :=
  ∀ (s : State) (i : Instr) (f : Fault), exec i s = .fault f →
    (∃ c, s.tail c = s.head c ∧
      ((i = .chRead c ∧ f = .readEmpty c) ∨ (i = .chPeek c ∧ f = .peekEmpty c) ∨
        (i = .chDiscard c ∧ f = .discardEmpty c) ∨ (∃ k, i = .lnkRead k ∧ c = s.cfg.rx k ∧ f = .readEmpty c))) ∨
    (∃ c, f = .clearBusy c ∧ s.req.src.ctx = .irq ∧ c ∈ i.uses s.cfg ∧ c ∈ s.clearing)

/-- R165, R224, R264: a handler, or a request on the `IRQ` port, that is admitted while a CH.CLEAR or LNK.CLEAR of a channel it uses
is in flight in `FG` raises `ClearBusy` of that channel; in flight means from acceptance to return (log entry 9). -/
def Obligations.ClearBusyRaised : Prop :=
  ∀ (s : State) (i : Instr) (c : Nat), i.legal s.cfg = true → i.roleAllows s.cfg s.req.src = true →
    s.req.src.ctx = .irq → i.uses s.cfg = [c] → c ∈ s.clearing → exec i s = .fault (.clearBusy c)

/-! ## The clock -/

/-- R120: CLK.UPDATE by the designated updater writes the other slot, with the epoch of the current slot, one more when the sample is
numerically smaller than the recorded one, and publishes it. -/
def Obligations.ClkUpdateEffect : Prop :=
  ∀ s : State, s.req.src = .port s.cfg.clkUpdater →
    let sample := BitVec.ofNat 32 s.tau
    let cur := if s.idx = 0 then s.slot0 else s.slot1
    let other : Slot := ⟨if sample < cur.last then cur.epoch + 1 else cur.epoch, sample⟩
    exec .clkUpdate s = .next { s with
      slot0 := if s.idx = 0 then s.slot0 else other
      slot1 := if s.idx = 0 then other else s.slot1
      idx := 1 - s.idx
      inflight := s.inflight.set s.cfg.clkUpdater none
      result := s.result.set s.cfg.clkUpdater .none }

/-- R97, R121: CLK.READ, from either context, returns the 64-bit value with the epoch (after the local rollover detection) in bits
63:32 and the counter sample in bits 31:0, and writes no register. -/
def Obligations.ClkReadEffect : Prop :=
  ∀ (s : State) (x : Ctx), s.req.src = .port x →
    let sample := BitVec.ofNat 32 s.tau
    let cur := if s.idx = 0 then s.slot0 else s.slot1
    let e2 := if sample < cur.last then cur.epoch + 1 else cur.epoch
    exec .clkRead s = .next { s with
      inflight := s.inflight.set x none
      result := s.result.set x (.res 64 (e2.toNat * 2 ^ 32 + sample.toNat)) }

/-- R122: CLK.READMS returns the reading of CLK.READ divided by 1000, rounded down, and writes no register. -/
def Obligations.ClkReadMsEffect : Prop :=
  ∀ (s : State) (x : Ctx), s.req.src = .port x →
    exec .clkReadMs s = .next { s with
      inflight := s.inflight.set x none
      result := s.result.set x (.res 64 (s.readingNat / 1000)) }

/-- R123, first case: when the published slot stands for the true time `tauU`, at most one wrap before the sample, a CLK.READ returns
the true time modulo 2^64. -/
def Obligations.ReadReturnsTrueTime : Prop :=
  ∀ (s : State) (x : Ctx) (tauU : Nat), s.req.src = .port x → s.clockAt tauU → tauU ≤ s.tau → s.tau - tauU < 2 ^ 32 →
    ∃ t, exec .clkRead s = .next t ∧ t.result.get x = .res 64 (s.tau % 2 ^ 64)

/-- R123, R300, second case: when the sample is taken a wrap period or more after the published slot's time (and before 2^64), the
reading is too small by a positive multiple of 2^32. -/
def Obligations.LateReadTooSmall : Prop :=
  ∀ (s : State) (x : Ctx) (tauU : Nat), s.req.src = .port x → s.clockAt tauU → tauU + 2 ^ 32 ≤ s.tau → s.tau < 2 ^ 64 →
    ∃ t v m, exec .clkRead s = .next t ∧ t.result.get x = .res 64 v ∧ 1 ≤ m ∧ v + m * 2 ^ 32 = s.tau

/-- R24, R120: when the update interval holds, CLK.UPDATE makes the published slot stand for the true time of its sample. And R23, R73,
R126, at micro-step granularity and for every interleaving: no micro-step of any operation changes `idx` or the published slot,
except step U7 of CLK.UPDATE, which publishes the other slot complete, with the rolled-over epoch of the slot published before and
the sample of U1, and ends the operation; until then a CLK.UPDATE keeps that sample. -/
def Obligations.UpdateKeepsClockTrue : Prop :=
  (∀ (s : State) (tauU : Nat), s.req.src = .port s.cfg.clkUpdater → s.clockAt tauU → tauU ≤ s.tau →
    s.tau - tauU < 2 ^ 32 → ∃ t, exec .clkUpdate s = .next t ∧ t.clockAt s.tau) ∧
  ∀ s t : State, s.Sound → s.advance = .next t →
    ((t.idx = s.idx ∧ t.slot s.idx = s.slot s.idx) ∨
      ∃ x r, s.inflight.get x = some r ∧ r.instr = .clkUpdate ∧ r.ustep = 7 ∧ t.inflight.get x = none ∧
        t.idx = 1 - s.idx ∧ t.slot s.idx = s.slot s.idx ∧
        t.slot t.idx = ⟨if r.temps.sample < (s.slot s.idx).last then (s.slot s.idx).epoch + 1 else (s.slot s.idx).epoch,
          r.temps.sample⟩) ∧
    ∀ x r r', s.inflight.get x = some r → r.instr = .clkUpdate → t.inflight.get x = some r' →
      r' = r ∨ r'.temps.sample = if r.ustep = 1 then BitVec.ofNat 32 s.tau else r.temps.sample

/-- R124, R300, under the spacing of 90_conflicts.md C5: along any sequence of CLK.UPDATEs by the designated updater and CLK.READs by
either context, none overlapping another, in which the update interval holds, every operation completes and the readings never
decrease. -/
def Obligations.ReadingsNeverDecrease : Prop :=
  ∀ (ops : List (Nat × Option Ctx)) (s : State) (tauU : Nat), s.clockAt tauU → tauU ≤ s.tau →
    clockSpaced tauU s.tau ops → ∃ readings, s.clockRun ops = some readings ∧ readings.Pairwise (· ≤ ·)

/-- R308, example P6 (a) for all values: with the updater in `IRQ`, a CLK.READ of `FG` whose sample is taken, and which a whole CLK.UPDATE
then overtakes, returns a value 2^32 microseconds too large although no wrap separates the samples. -/
def Obligations.OvertakenReadTooLarge : Prop :=
  ∀ (s : State) (us : Nat),
    let cur := if s.idx = 0 then s.slot0 else s.slot1
    s.inflight = ⟨none, none⟩ → s.cfg.clkUpdater = .irq → cur.last.toNat ≤ s.tau % 2 ^ 32 → 0 < us →
    s.tau % 2 ^ 32 + us < 2 ^ 32 → cur.epoch.toNat + 1 < 2 ^ 32 →
    s.script = [.request false .fg (encode .clkRead) 0 0, .advance, .elapse us, .request true .irq (encode .clkUpdate) 0 0] →
    ∃ t, Sys2Proof.core.run 8 s = .next t ∧
      t.result.fg = .res 64 (cur.epoch.toNat * 2 ^ 32 + s.tau % 2 ^ 32 + 2 ^ 32)

/-! ## The deadline comparator and the tickers -/

/-- R140: TIMEPAST, the operation of opcode 0x12, from either context, is the predicate of its two 32-bit operands and writes no
register; held in flight, it ends at its first micro-step. `T_HALF` is a parameter, 2^30 after reset. -/
def Obligations.TimePastEffect : Prop :=
  decode 0x0012 = .ok .timePast ∧ State.reset.cfg.tHalf = 2 ^ 30 ∧
  (∀ (s : State) (x : Ctx), s.req.src = .port x →
    exec .timePast s = .next { s with
      inflight := s.inflight.set x none
      result := s.result.set x (.flag (decide (Past s.cfg.tHalf (s.req.arg0 % 2 ^ 32) (s.req.arg1 % 2 ^ 32)))) }) ∧
  ∀ (s : State) (x : Ctx) (cur ref n : Nat) (t : Temps), cur < 2 ^ 32 → ref < 2 ^ 32 →
    s.inflight.get x = some ⟨.timePast, cur, ref, n, t⟩ → (x = .fg → s.inflight.irq = none) →
    s.advance = .next { s with
      inflight := s.inflight.set x none
      result := s.result.set x (.flag (decide (Past s.cfg.tHalf cur ref))) }

/-- R141: what the predicate computes in terms of the cyclic forward distance, with the threshold 2^30 and with 2^31, and the four
properties of the source. -/
def Obligations.TimePastByDistance : Prop :=
  ∀ cur ref : Micros,
    let d := (cur - ref).toNat
    (∀ h : Nat, h ≤ 2 ^ 31 →
      (ref < cur → (timePast h cur ref = true ↔ 1 ≤ d ∧ d < h)) ∧
      (cur < ref → (d = 2 ^ 32 - (ref - cur).toNat ∧ (timePast h cur ref = true ↔ 1 ≤ d ∧ d < 2 ^ 32 - h))) ∧
      timePast h cur cur = false) ∧
    (timePast (2 ^ 31) cur ref = true ↔ 1 ≤ d ∧ d < 2 ^ 31) ∧
    timePast (2 ^ 30) (cur + 1) cur = true ∧ timePast (2 ^ 30) cur (cur + 1) = false ∧
    timePast (2 ^ 30) 5 0xFFFFFFF0 = true ∧
    timePast (2 ^ 30) 0x3FFFFFFF 0 = true ∧ timePast (2 ^ 30) 0x40000000 0 = false ∧
    timePast (2 ^ 30) 0x80000000 0 = false ∧ timePast (2 ^ 30) 0 0x80000000 = true ∧
    timePast (2 ^ 30) 0 0x40000000 = false ∧ timePast (2 ^ 30) 0 0x40000001 = true

/-- R142: TCK.CHECK by the ticker's owner fires when the counter sample is past the expiry by the predicate of R140; then the expiry
advances by exactly one period modulo 2^32, otherwise nothing changes. -/
def Obligations.TckCheckEffect : Prop :=
  ∀ (s : State) (t : Nat), t < s.cfg.nTck → s.req.src = .port (s.cfg.tck t).owner →
    let x := s.expiry.getD t 0
    let fires := Past s.cfg.tHalf (s.tau % 2 ^ 32) x.toNat
    exec (.tckCheck t) s = .next { s with
      expiry := if fires then s.expiry.set t (x + (s.cfg.tck t).period) else s.expiry
      inflight := s.inflight.set (s.cfg.tck t).owner none
      result := s.result.set (s.cfg.tck t).owner (.flag (decide fires)) }

/-- R143: TCK.RESET by the ticker's owner sets the expiry to now plus one period modulo 2^32. -/
def Obligations.TckResetEffect : Prop :=
  ∀ (s : State) (t : Nat), t < s.cfg.nTck → s.req.src = .port (s.cfg.tck t).owner →
    exec (.tckReset t) s = .next { s with
      expiry := s.expiry.set t (BitVec.ofNat 32 s.tau + (s.cfg.tck t).period)
      inflight := s.inflight.set (s.cfg.tck t).owner none
      result := s.result.set (s.cfg.tck t).owner .none }

/-- R144, R32: after a TCK.RESET that set the expiry to `E0`, whatever the times of the checks, each check that fires adds one period: no
drift, no catch-up. -/
def Obligations.TickerNeverDrifts : Prop :=
  ∀ (s s0 : State) (t : Nat) (gaps : List Nat), t < s.cfg.nTck → t < s.expiry.length →
    s.req.src = .port (s.cfg.tck t).owner → exec (.tckReset t) s = .next s0 →
    ∃ s' n, s0.poll t gaps = some (s', n) ∧ n ≤ gaps.length ∧
      s'.expiry.getD t 0 = s0.expiry.getD t 0 + BitVec.ofNat 32 n * (s.cfg.tck t).period

/-- R146, R311: right after a TCK.RESET at a time with no wrap ahead, a check fires at once exactly when the period is above `T_HALF`;
and with period 0 a check that fires leaves the expiry where it was. -/
def Obligations.PeriodOutsideRange : Prop :=
  ∀ (s s0 : State) (t : Nat), t < s.cfg.nTck → t < s.expiry.length → s.req.src = .port (s.cfg.tck t).owner →
    (s.tau % 2 ^ 32 + (s.cfg.tck t).period.toNat < 2 ^ 32 → exec (.tckReset t) s = .next s0 →
      ∃ s1, exec (.tckCheck t) s0 = .next s1 ∧ s1.result.get (s.cfg.tck t).owner =
        .flag (decide (s.cfg.tHalf < (s.cfg.tck t).period.toNat))) ∧
    ((s.cfg.tck t).period = 0 → ∃ s1, exec (.tckCheck t) s = .next s1 ∧ s1.expiry = s.expiry)

/-! ## The bounded channel -/

/-- R161: CH.WRITE by the producer of a stand-alone channel stores the element (its low `ELEM_W` bits) at `tail mod C` and advances
`tail` modulo `2*C`; on a full channel it changes nothing. It has no result. -/
def Obligations.ChWriteEffect : Prop :=
  ∀ (s : State) (c : Nat), c < s.cfg.nCh → s.cfg.kind c = .standAlone → s.req.src = .port (s.cfg.prod c) →
    (s.cfg.prod c = .irq → c ∉ s.clearing) →
    exec (.chWrite c) s = .next { s with
      chans := if s.occupancy c = s.cfg.cap c then s.chans
        else s.chans.modify c fun ch => { ch with
          store := ch.store.set (ch.tail % s.cfg.cap c) (.raw (s.req.arg0 % 2 ^ s.cfg.elemW c))
          tail := (ch.tail + 1) % (2 * s.cfg.cap c) }
      inflight := s.inflight.set (s.cfg.prod c) none
      result := s.result.set (s.cfg.prod c) .none }

/-- R162: CH.READ by the consumer of a stand-alone channel that is not empty returns the element at `head mod C` and advances `head`
modulo `2*C`; on an empty channel it faults `ReadEmpty`. -/
def Obligations.ChReadEffect : Prop :=
  ∀ (s : State) (c : Nat), c < s.cfg.nCh → s.cfg.kind c = .standAlone → s.req.src = .port (s.cfg.cons c) →
    (s.cfg.cons c = .irq → c ∉ s.clearing) →
    (s.tail c = s.head c → exec (.chRead c) s = .fault (.readEmpty c)) ∧
    (s.tail c ≠ s.head c → exec (.chRead c) s = .next { s with
      chans := s.chans.modify c fun ch => { ch with head := (ch.head + 1) % (2 * s.cfg.cap c) }
      inflight := s.inflight.set (s.cfg.cons c) none
      result := s.result.set (s.cfg.cons c)
        (.res (s.cfg.elemW c) ((s.memRead c (s.head c % s.cfg.cap c)).toBits s.cfg.payloadW)) })

/-- R163: CH.PEEK returns the same element and writes no register; on an empty channel it faults `PeekEmpty`. -/
def Obligations.ChPeekEffect : Prop :=
  ∀ (s : State) (c : Nat), c < s.cfg.nCh → s.cfg.kind c = .standAlone → s.req.src = .port (s.cfg.cons c) →
    (s.cfg.cons c = .irq → c ∉ s.clearing) →
    (s.tail c = s.head c → exec (.chPeek c) s = .fault (.peekEmpty c)) ∧
    (s.tail c ≠ s.head c → exec (.chPeek c) s = .next { s with
      inflight := s.inflight.set (s.cfg.cons c) none
      result := s.result.set (s.cfg.cons c)
        (.res (s.cfg.elemW c) ((s.memRead c (s.head c % s.cfg.cap c)).toBits s.cfg.payloadW)) })

/-- R164: CH.DISCARD advances `head` as CH.READ does and returns nothing; on an empty channel it faults `DiscardEmpty`. -/
def Obligations.ChDiscardEffect : Prop :=
  ∀ (s : State) (c : Nat), c < s.cfg.nCh → s.cfg.kind c = .standAlone → s.req.src = .port (s.cfg.cons c) →
    (s.cfg.cons c = .irq → c ∉ s.clearing) →
    (s.tail c = s.head c → exec (.chDiscard c) s = .fault (.discardEmpty c)) ∧
    (s.tail c ≠ s.head c → exec (.chDiscard c) s = .next { s with
      chans := s.chans.modify c fun ch => { ch with head := (ch.head + 1) % (2 * s.cfg.cap c) }
      inflight := s.inflight.set (s.cfg.cons c) none
      result := s.result.set (s.cfg.cons c) .none })

/-- R165: CH.CLEAR from `FG` sets both cursors to 0 and leaves the storage alone. -/
def Obligations.ChClearEffect : Prop :=
  ∀ (s : State) (c : Nat), c < s.cfg.nCh → s.cfg.kind c = .standAlone → s.req.src = .port .fg →
    exec (.chClear c) s = .next { s with
      chans := s.chans.modify c fun ch => { ch with head := 0, tail := 0 }
      inflight := s.inflight.set .fg none
      result := s.result.set .fg .none }

/-- R166, R167: CH.FULL and CH.EMPTY, from either role's context, return `occ == C` and `tail == head` and write no register. -/
def Obligations.ChFullEmptyEffect : Prop :=
  ∀ (s : State) (c : Nat) (x : Ctx), c < s.cfg.nCh → s.cfg.kind c = .standAlone → s.req.src = .port x →
    (x = s.cfg.prod c ∨ x = s.cfg.cons c) → (x = .irq → c ∉ s.clearing) →
    exec (.chFull c) s = .next { s with
      inflight := s.inflight.set x none
      result := s.result.set x (.flag (s.occupancy c == s.cfg.cap c)) } ∧
    exec (.chEmpty c) s = .next { s with
      inflight := s.inflight.set x none
      result := s.result.set x (.flag (s.tail c == s.head c)) }

/-- R168, the FIFO law of whole operations: a write to a channel that is not full appends, to a full one changes nothing; a read returns
and removes the oldest element; a peek returns it; a discard removes it; a clear empties the channel. -/
def Obligations.ChannelFifoLaw : Prop :=
  ∀ (s : State) (c : Nat), s.channelSound c →
    (s.mayStart (.chWrite c) → ∃ t, exec (.chWrite c) s = .next t ∧
      t.contents c = if (s.contents c).length = s.cfg.cap c then s.contents c
        else s.contents c ++ [.raw (s.req.arg0 % 2 ^ s.cfg.elemW c)]) ∧
    (∀ e rest, s.contents c = e :: rest →
      (s.mayStart (.chRead c) → ∃ t, exec (.chRead c) s = .next t ∧ t.contents c = rest ∧
        t.result.get s.req.src.ctx = .res (s.cfg.elemW c) (e.toBits s.cfg.payloadW)) ∧
      (s.mayStart (.chPeek c) → ∃ t, exec (.chPeek c) s = .next t ∧ t.contents c = e :: rest ∧
        t.result.get s.req.src.ctx = .res (s.cfg.elemW c) (e.toBits s.cfg.payloadW)) ∧
      (s.mayStart (.chDiscard c) → ∃ t, exec (.chDiscard c) s = .next t ∧ t.contents c = rest)) ∧
    (s.mayStart (.chClear c) → ∃ t, exec (.chClear c) s = .next t ∧ t.contents c = [])

/-- R168, R169, at micro-step granularity and for every interleaving: one micro-step either leaves the contents of a channel that is not
being cleared as they are, or appends one element, or removes the oldest. -/
def Obligations.MicroStepIsFifo : Prop :=
  ∀ (s t : State) (c : Nat), s.Sound → c < s.cfg.nCh → c ∉ s.clearing → s.advance = .next t →
    t.contents c = s.contents c ∨ (∃ e, t.contents c = s.contents c ++ [e]) ∨ (∃ e, s.contents c = e :: t.contents c)

/-! ## The message link, receive side -/

/-- R191: LNK.READ from `FG` is CH.READ of `rx(k)`, with its fault. -/
def Obligations.LnkReadEffect : Prop :=
  ∀ (s : State) (k : Nat), k < s.cfg.nLnk → s.cfg.hasRx k = true → s.req.src = .port .fg →
    let c := s.cfg.rx k
    (s.tail c = s.head c → exec (.lnkRead k) s = .fault (.readEmpty c)) ∧
    (s.tail c ≠ s.head c → exec (.lnkRead k) s = .next { s with
      chans := s.chans.modify c fun ch => { ch with head := (ch.head + 1) % (2 * s.cfg.cap c) }
      inflight := s.inflight.set .fg none
      result := s.result.set .fg
        (.res (s.cfg.elemW c) ((s.memRead c (s.head c % s.cfg.cap c)).toBits s.cfg.payloadW)) })

/-- R192, R193, R222, R223: the four link flags (LNK.RXEMPTY, LNK.RXFULL, LNK.TXEMPTY, LNK.TXFULL), from `FG`, are those of the link's
own channels and write no register. -/
def Obligations.LinkFlagsEffect : Prop :=
  ∀ (s : State) (k : Nat), k < s.cfg.nLnk → s.req.src = .port .fg →
    let answers (i : Instr) (b : Bool) := exec i s = .next { s with
      inflight := s.inflight.set .fg none
      result := s.result.set .fg (.flag b) }
    (s.cfg.hasRx k = true →
      answers (.lnkRxEmpty k) (s.tail (s.cfg.rx k) == s.head (s.cfg.rx k)) ∧
      answers (.lnkRxFull k) (s.occupancy (s.cfg.rx k) == s.cfg.cap (s.cfg.rx k))) ∧
    (s.cfg.hasTx k = true →
      answers (.lnkTxEmpty k) (s.tail (s.cfg.tx k) == s.head (s.cfg.tx k)) ∧
      answers (.lnkTxFull k) (s.occupancy (s.cfg.tx k) == s.cfg.cap (s.cfg.tx k)))

/-- R194, R195, R203, R204: a whole ISR.RX appends to the receive channel, in order, as many pending frames as there is room for, each
wrapped with the millisecond reading on a timestamping link; `tail` advances by that many, `head` and every other storage cell stay;
the frames it leaves are discarded or retained by `RX_RESIDUE`; nothing else of the block or its environment changes. -/
def Obligations.IsrRxDrainsBurst : Prop :=
  ∀ (s : State) (k : Nat),
    let c := s.cfg.rx k
    let room := s.cfg.cap c - s.occupancy c
    let pending := (s.peripheral k).rxq
    let taken := min room pending.length
    k < s.cfg.nLnk → k < s.hw.length → s.cfg.hasRx k = true → s.req.src = .dispatcher → c ∉ s.clearing →
    s.channelSound c →
    ∃ (t : State) (store : List Elem), exec (.isrRx k) s = .next t ∧
      t.contents c = s.contents c ++ (pending.take room).map (s.wrapped k) ∧
      store.length = s.cfg.cap c ∧
      (∀ i, (∀ j < taken, i ≠ (s.tail c + j) % s.cfg.cap c) → store[i]? = (s.chan c).store[i]?) ∧
      t = { s with
        chans := s.chans.set c ⟨s.head c, (s.tail c + taken) % (2 * s.cfg.cap c), store⟩
        hw := s.hw.set k { s.peripheral k with
          rxq := if s.cfg.rxResidue = .discard then [] else pending.drop room }
        inflight := s.inflight.set .irq none
        result := s.result.set .irq .none }

/-- R250, R320: a whole ISR.RX completes in every state in which it may start, whatever is pending and whatever the channel holds. -/
def Obligations.IsrRxCompletes : Prop :=
  ∀ (s : State) (k : Nat), k < s.cfg.nLnk → s.cfg.hasRx k = true → s.req.src = .dispatcher → s.cfg.rx k ∉ s.clearing →
    ∃ t, exec (.isrRx k) s = .next t ∧ t.inflight = s.inflight.set .irq none

/-- R196 to R201: each error handler (ISR.ERR.WARN, ISR.ERR.OVF, ISR.ERR.WAKE, ISR.ERR.PASSIVE, ISR.ERR.ARB, ISR.ERR.BUS, by its
kind) stores one error record, with the millisecond reading and its own kind, in the receive channel of a timestamping link, and
drops it when the channel is full; nothing else changes. -/
def Obligations.IsrErrEffect : Prop :=
  ∀ (s : State) (k : Nat) (kind : ErrKind), k < s.cfg.nLnk → s.cfg.hasRx k = true → s.cfg.timestamp k = true →
    s.req.src = .dispatcher → s.cfg.rx k ∉ s.clearing →
    let c := s.cfg.rx k
    exec (EventKind.handler k (.err kind)) s = .next { s with
      chans := if s.occupancy c = s.cfg.cap c then s.chans
        else s.chans.modify c fun ch => { ch with
          store := ch.store.set (ch.tail % s.cfg.cap c) (.error s.readingMs kind)
          tail := (ch.tail + 1) % (2 * s.cfg.cap c) }
      inflight := s.inflight.set .irq none
      result := s.result.set .irq .none }

/-! ## The message link, transmit side -/

/-- R221, R226: LNK.WRITE from `FG`, run without preemption. Idle and accepted: the frame goes to the hardware, and a buffered link becomes
Busy. Otherwise the frame is queued if there is room, and a buffered link that was Idle becomes Busy; with no room it fails and nothing
changes. -/
def Obligations.LnkWriteEffect : Prop :=
  ∀ (s : State) (k : Nat), k < s.cfg.nLnk → s.cfg.hasTx k = true → s.req.src = .port .fg →
    let c := s.cfg.tx k
    let f := s.req.arg0 % 2 ^ s.cfg.frameW
    let h := s.hw.getD k ⟨[], true, false, []⟩
    let ends (b : Bool) (u : State) : Prop := exec (.lnkWrite k) s = .next { u with
      inflight := s.inflight.set .fg none
      result := s.result.set .fg (.flag b) }
    (s.tx k = .idle → h.accepts = true → ends true { s with
      hw := s.hw.set k { h with sent := h.sent ++ [f] }
      txState := if s.cfg.txMode k = .buffered then s.txState.set k .busy else s.txState }) ∧
    (s.tx k = .busy ∨ h.accepts = false → s.occupancy c = s.cfg.cap c → ends false s) ∧
    (s.tx k = .busy ∨ h.accepts = false → s.occupancy c ≠ s.cfg.cap c → ends true { s with
      chans := s.chans.modify c fun ch => { ch with
        store := ch.store.set (ch.tail % s.cfg.cap c) (.raw f)
        tail := (ch.tail + 1) % (2 * s.cfg.cap c) }
      txState := if s.cfg.txMode k = .buffered ∧ s.tx k = .idle then s.txState.set k .busy else s.txState })

/-- R225, R226: ISR.TXDONE. With `tx` empty a buffered link becomes Idle. Otherwise the oldest frame is offered to the hardware: accepted, it
is handed over and removed; refused, nothing changes; the state register is not written. -/
def Obligations.IsrTxDoneEffect : Prop :=
  ∀ (s : State) (k : Nat), k < s.cfg.nLnk → s.cfg.hasTx k = true → s.req.src = .dispatcher → s.cfg.tx k ∉ s.clearing →
    let c := s.cfg.tx k
    let h := s.hw.getD k ⟨[], true, false, []⟩
    let ends (u : State) : Prop := exec (.isrTxDone k) s = .next { u with
      inflight := s.inflight.set .irq none
      result := s.result.set .irq .none }
    (s.tail c = s.head c → ends { s with
      txState := if s.cfg.txMode k = .buffered then s.txState.set k .idle else s.txState }) ∧
    (s.tail c ≠ s.head c → h.accepts = false → ends s) ∧
    (s.tail c ≠ s.head c → h.accepts = true → ends { s with
      hw := s.hw.set k { h with sent := h.sent ++ [(s.memRead c (s.head c % s.cfg.cap c)).toBits s.cfg.payloadW] }
      chans := s.chans.modify c fun ch => { ch with head := (ch.head + 1) % (2 * s.cfg.cap c) } })

/-- R224: LNK.CLEAR from `FG` empties the channels the link has and sets the transmit state to Idle; the storage is left alone. -/
def Obligations.LnkClearEffect : Prop :=
  ∀ (s : State) (k : Nat), k < s.cfg.nLnk → s.req.src = .port .fg →
    let emptied (has : Bool) (c : Nat) (l : List Chan) : List Chan :=
      if has then l.modify c fun ch => { ch with head := 0, tail := 0 } else l
    exec (.lnkClear k) s = .next { s with
      chans := emptied (s.cfg.hasTx k) (s.cfg.tx k) (emptied (s.cfg.hasRx k) (s.cfg.rx k) s.chans)
      txState := if s.cfg.hasTx k then s.txState.set k .idle else s.txState
      inflight := s.inflight.set .fg none
      result := s.result.set .fg .none }

/-- R313 (a), P6 (b) for all values: a completion served between steps T1 and T4 of a LNK.WRITE on a Busy link with an empty channel strands
the frame: it is queued, the write returns success, and the link is Idle. -/
def Obligations.StrandedFrame : Prop :=
  ∀ (s : State) (k f : Nat),
    let c := s.cfg.tx k
    s.inflight = ⟨none, none⟩ → k < 256 → k < s.cfg.nLnk → k < s.txState.length → s.cfg.hasTx k = true →
    s.cfg.txMode k = .buffered → s.channelSound c → s.tx k = .busy → s.contents c = [] →
    s.script = [.request false .fg (encode (.lnkWrite k)) f 0, .advance, .event true k .txComplete] →
    ∃ t, Sys2Proof.core.run 11 s = .next t ∧ t.tx k = .idle ∧ t.contents c = [.raw (f % 2 ^ s.cfg.frameW)] ∧
      t.result.fg = .flag true ∧ t.inflight = ⟨none, none⟩ ∧ t.hw = s.hw

/-- R313 (b), P6 (c) for all values: a completion served between steps T2 and T3 of a LNK.WRITE that the hardware accepted on an Idle link with
an empty channel leaves the link Busy with nothing queued. -/
def Obligations.StuckBusy : Prop :=
  ∀ (s : State) (k f : Nat),
    let c := s.cfg.tx k
    s.inflight = ⟨none, none⟩ → k < 256 → k < s.cfg.nLnk → k < s.txState.length → k < s.hw.length →
    s.cfg.hasTx k = true → s.cfg.txMode k = .buffered → s.channelSound c → s.tx k = .idle → s.contents c = [] →
    (s.peripheral k).accepts = true →
    s.script = [.request false .fg (encode (.lnkWrite k)) f 0, .advance, .advance, .event true k .txComplete] →
    ∃ t, Sys2Proof.core.run 5 s = .next t ∧ t.tx k = .busy ∧ t.contents c = [] ∧ t.result.fg = .flag true ∧
      (t.peripheral k).sent = (s.peripheral k).sent ++ [f % 2 ^ s.cfg.frameW] ∧ t.inflight = ⟨none, none⟩

/-- R227: no uninterrupted sequence of operations leaves a buffered link Idle with frames waiting: each whole operation keeps "waiting is
Busy". -/
def Obligations.UninterruptedLinkStaysBusy : Prop :=
  ∀ (s t : State) (i : Instr), s.Sound → s.inflight = ⟨none, none⟩ → s.waitingIsBusy → exec i s = .next t →
    t.waitingIsBusy

/-! ## The whole machine -/

/-- R23, R36, R37, R38, R73, R169: the invariant that every step keeps, under every interleaving. -/
def Obligations.StepKeepsSound : Prop := ∀ s t : State, s.Sound → step s = .next t → t.Sound

/-- R44, R96, U13: every step keeps every stored element of the type and width of its channel. -/
def Obligations.StepKeepsTyped : Prop := ∀ s t : State, s.Sound → s.Typed → step s = .next t → t.Typed

/-- R46, R220: every step keeps the transmit state of every `fire_and_forget` link Idle. -/
def Obligations.StepKeepsFireAndForgetIdle : Prop :=
  ∀ s t : State, s.fireAndForgetIdle → step s = .next t → t.fireAndForgetIdle

/-- R6, R20, R30, R48, R53: no step changes a parameter, and so neither `PERIOD[t]` nor `attached[k][ev]`. -/
def Obligations.StepKeepsParameters : Prop := ∀ s t : State, step s = .next t → t.cfg = s.cfg

/-- R270: the environment's time never decreases. -/
def Obligations.TimeNeverRunsBack : Prop := ∀ s t : State, step s = .next t → s.tau ≤ t.tau

/-- R270, R272, R273, R280: a move of the environment changes the time or one peripheral and no register of the block: time advances by
the given amount, a frame (its low `FRAME_W` bits) joins the end of `hw_rxq[k]`, or the answer of `HwXmit` or `HwTxActive` is set. -/
def Obligations.EnvironmentMovesEffect : Prop :=
  ∀ (s : State) (k n : Nat) (b : Bool) (rest : List Move),
    let h := s.hw.getD k ⟨[], true, false, []⟩
    let moves (m : Move) (u : State) : Prop := s.script = m :: rest → step s = .next { u with script := rest }
    moves (.elapse n) { s with tau := s.tau + n } ∧
    moves (.arrive k n) { s with hw := s.hw.set k { h with rxq := h.rxq ++ [n % 2 ^ s.cfg.frameW] } } ∧
    moves (.answer k b) { s with hw := s.hw.set k { h with accepts := b } } ∧
    moves (.transmitting k b) { s with hw := s.hw.set k { h with txActive := b } }

/-- R54: who writes what. Each register is changed only by the operations that the table names for it (and the link operations that
call them); no operation changes the true time. -/
def Obligations.RegisterWriters : Prop :=
  ∀ (s t : State) (i : Instr), exec i s = .next t →
    (i ≠ .clkUpdate → t.slot0 = s.slot0 ∧ t.slot1 = s.slot1 ∧ t.idx = s.idx) ∧
    ((∀ n, i ≠ .tckCheck n ∧ i ≠ .tckReset n) → t.expiry = s.expiry) ∧
    ((∀ k, i ≠ .lnkWrite k ∧ i ≠ .lnkClear k ∧ i ≠ .isrTxDone k) → t.txState = s.txState) ∧
    ((∀ k, i ≠ .lnkWrite k ∧ i ≠ .isrTxDone k ∧ i ≠ .isrRx k) → t.hw = s.hw) ∧
    (∀ c, t.head c ≠ s.head c → i = .chRead c ∨ i = .chDiscard c ∨ i = .chClear c ∨
      ∃ k, (i = .lnkRead k ∧ c = s.cfg.rx k) ∨ (i = .isrTxDone k ∧ c = s.cfg.tx k) ∨
        (i = .lnkClear k ∧ (c = s.cfg.rx k ∨ c = s.cfg.tx k))) ∧
    (∀ c, t.tail c ≠ s.tail c → i = .chWrite c ∨ i = .chClear c ∨
      ∃ k, (i = .lnkWrite k ∧ c = s.cfg.tx k) ∨ (i = .lnkClear k ∧ (c = s.cfg.rx k ∨ c = s.cfg.tx k)) ∨
        (c = s.cfg.rx k ∧ (i = .isrRx k ∨ ∃ kind, i = EventKind.handler k (.err kind)))) ∧
    (∀ c n, t.memRead c n ≠ s.memRead c n → i = .chWrite c ∨
      ∃ k, (i = .lnkWrite k ∧ c = s.cfg.tx k) ∨
        (c = s.cfg.rx k ∧ (i = .isrRx k ∨ ∃ kind, i = EventKind.handler k (.err kind)))) ∧
    t.tau = s.tau ∧ t.script = s.script ∧ t.req = s.req

/-- R273: no operation asks whether the peripheral is transmitting. Whatever `HwTxActive(k)` would answer, every operation has the same
outcome and writes the same registers. -/
def Obligations.TransmitStatusNeverRead : Prop :=
  ∀ (s : State) (k : Nat) (b : Bool) (i : Instr),
    let answering (u : State) : State := u.onPeripheral k fun h => { h with txActive := b }
    exec i (answering s) =
      match exec i s with
      | .next t => .next (answering t)
      | .fault f => .fault f
      | .refused r => .refused r

/-- R20, R40: instances do not share state. A whole operation changes no channel but those it uses, no ticker but its own, and no link's
transmit state or peripheral but its own. -/
def Obligations.OperationsAreLocal : Prop :=
  ∀ (s t : State) (i : Instr), exec i s = .next t →
    (∀ c, c ∉ i.uses s.cfg → t.chan c = s.chan c) ∧
    (∀ n, n ≠ i.inst → t.expiry.getD n 0 = s.expiry.getD n 0 ∧ t.tx n = s.tx n ∧ t.peripheral n = s.peripheral n)
end

