-- ==== Sys2Proof/Laws/Flags.lean ====
section
/-!
SUPPORT. Cursor arithmetic (42_channel.md rule R170): what occupancy is for cursors in range, and how it moves when a cursor
does.
-/

namespace Sys2Proof.Machine

theorem cursorDiff_lt {m : Nat} (hm : 0 < m) (t h : Nat) : cursorDiff m t h < m := Nat.mod_lt _ hm

/-- The remainder of the difference, by whether the head has passed the wrap. -/
theorem cursorDiff_eq {m t h : Nat} (ht : t < m) (hh : h < m) :
    cursorDiff m t h = if h ≤ t then t - h else t + m - h := by
  unfold cursorDiff
  rw [Nat.mod_eq_of_lt hh]
  split
  · rw [show t + (m - h) = (t - h) + m by omega, Nat.add_mod_right, Nat.mod_eq_of_lt (by omega)]
  · rw [Nat.mod_eq_of_lt (by omega)]; omega

theorem occ_lt {cap : Nat} (hc : 1 ≤ cap) (t h : Nat) : occ cap t h < 2 * cap :=
  cursorDiff_lt (by unfold curMod; omega) t h

theorem occ_eq {cap t h : Nat} (ht : t < curMod cap) (hh : h < curMod cap) :
    occ cap t h = if h ≤ t then t - h else t + curMod cap - h := cursorDiff_eq ht hh

@[simp] theorem occ_self {cap t : Nat} (ht : t < curMod cap) : occ cap t t = 0 := by
  rw [occ_eq ht ht]; simp

/-- R38 and R167 agree: for cursors in range, no occupancy is equality of the cursors. -/
theorem occ_eq_zero_iff {cap t h : Nat} (ht : t < curMod cap) (hh : h < curMod cap) : occ cap t h = 0 ↔ t = h := by
  rw [occ_eq ht hh]; split <;> omega

theorem cursorNext_lt {cap : Nat} (hc : 1 ≤ cap) (x : Nat) : cursorNext cap x < curMod cap :=
  Nat.mod_lt _ (by unfold curMod; omega)

theorem cursorNext_eq {cap x : Nat} (hx : x < curMod cap) :
    cursorNext cap x = if x + 1 = curMod cap then 0 else x + 1 := by
  unfold cursorNext
  split
  · simp_all
  · exact Nat.mod_eq_of_lt (by omega)

/-- A producer's store of `tail` adds one element, when there is room. -/
theorem occ_cursorNext_tail {cap t h : Nat} (hc : 1 ≤ cap) (ht : t < curMod cap) (hh : h < curMod cap)
    (room : occ cap t h < cap) : occ cap (cursorNext cap t) h = occ cap t h + 1 := by
  have hn := cursorNext_lt hc t
  rw [occ_eq hn hh, occ_eq ht hh, cursorNext_eq ht]
  rw [occ_eq ht hh] at room
  unfold curMod at *
  split_ifs at room ⊢ <;> omega

/-- A consumer's store of `head` removes one element, when there is one. -/
theorem occ_cursorNext_head {cap t h : Nat} (hc : 1 ≤ cap) (ht : t < curMod cap) (hh : h < curMod cap)
    (some : occ cap t h ≠ 0) : occ cap t (cursorNext cap h) + 1 = occ cap t h := by
  have hn := cursorNext_lt hc h
  rw [occ_eq ht hn, occ_eq ht hh, cursorNext_eq hh]
  rw [occ_eq ht hh] at some
  unfold curMod at *
  split_ifs at some ⊢ <;> omega

theorem isFull_iff {cap t h : Nat} : isFull cap t h = true ↔ occ cap t h = cap := by simp [isFull]

theorem isEmpty_iff {t h : Nat} : isEmpty t h = true ↔ t = h := by simp [isEmpty]

/-- The predicate of R140 on the values of its operands: neither subtraction borrows. -/
theorem timePast_iff (tHalf : Nat) (cur ref : Micros) :
    timePast tHalf cur ref = true ↔
      (ref.toNat < cur.toNat ∧ cur.toNat - ref.toNat < tHalf) ∨
        (cur.toNat < ref.toNat ∧ tHalf < ref.toNat - cur.toNat) := by
  unfold timePast
  split_ifs with h h' <;> simp only [BitVec.lt_def] at *
  · rw [decide_eq_true_iff, BitVec.toNat_sub_of_le (by rw [BitVec.le_def]; omega)]; omega
  · rw [decide_eq_true_iff, BitVec.toNat_sub_of_le (by rw [BitVec.le_def]; omega)]; omega
  · simp; omega

end Sys2Proof.Machine
end

