-- ==== Sys2Proof/Laws/State.lean ====
section
/-!
SUPPORT. Beside the state: what each named update leaves as it was, one lemma per field and per named read, and what it writes.
-/

namespace Sys2Proof.Machine

/-! ### `setEpoch` -/

@[simp] theorem State.setEpoch_cfg (s : State) (i : BitVec 1) (e : Epoch) : (s.setEpoch i e).cfg = s.cfg := by unfold State.setEpoch; split <;> rfl
@[simp] theorem State.setEpoch_idx (s : State) (i : BitVec 1) (e : Epoch) : (s.setEpoch i e).idx = s.idx := by unfold State.setEpoch; split <;> rfl
@[simp] theorem State.setEpoch_expiry (s : State) (i : BitVec 1) (e : Epoch) : (s.setEpoch i e).expiry = s.expiry := by unfold State.setEpoch; split <;> rfl
@[simp] theorem State.setEpoch_chans (s : State) (i : BitVec 1) (e : Epoch) : (s.setEpoch i e).chans = s.chans := by unfold State.setEpoch; split <;> rfl
@[simp] theorem State.setEpoch_txState (s : State) (i : BitVec 1) (e : Epoch) : (s.setEpoch i e).txState = s.txState := by unfold State.setEpoch; split <;> rfl
@[simp] theorem State.setEpoch_inflight (s : State) (i : BitVec 1) (e : Epoch) : (s.setEpoch i e).inflight = s.inflight := by unfold State.setEpoch; split <;> rfl
@[simp] theorem State.setEpoch_req (s : State) (i : BitVec 1) (e : Epoch) : (s.setEpoch i e).req = s.req := by unfold State.setEpoch; split <;> rfl
@[simp] theorem State.setEpoch_result (s : State) (i : BitVec 1) (e : Epoch) : (s.setEpoch i e).result = s.result := by unfold State.setEpoch; split <;> rfl
@[simp] theorem State.setEpoch_refusals (s : State) (i : BitVec 1) (e : Epoch) : (s.setEpoch i e).refusals = s.refusals := by unfold State.setEpoch; split <;> rfl
@[simp] theorem State.setEpoch_tau (s : State) (i : BitVec 1) (e : Epoch) : (s.setEpoch i e).tau = s.tau := by unfold State.setEpoch; split <;> rfl
@[simp] theorem State.setEpoch_hw (s : State) (i : BitVec 1) (e : Epoch) : (s.setEpoch i e).hw = s.hw := by unfold State.setEpoch; split <;> rfl
@[simp] theorem State.setEpoch_script (s : State) (i : BitVec 1) (e : Epoch) : (s.setEpoch i e).script = s.script := by unfold State.setEpoch; split <;> rfl
@[simp] theorem State.setEpoch_expiryOf (s : State) (i : BitVec 1) (e : Epoch) (t : Nat) :
    (s.setEpoch i e).expiryOf t = s.expiryOf t := by unfold State.setEpoch; split <;> rfl
@[simp] theorem State.setEpoch_chan (s : State) (i : BitVec 1) (e : Epoch) (d : Nat) :
    (s.setEpoch i e).chan d = s.chan d := by unfold State.setEpoch; split <;> rfl
@[simp] theorem State.setEpoch_head (s : State) (i : BitVec 1) (e : Epoch) (d : Nat) :
    (s.setEpoch i e).head d = s.head d := by unfold State.setEpoch; split <;> rfl
@[simp] theorem State.setEpoch_tail (s : State) (i : BitVec 1) (e : Epoch) (d : Nat) :
    (s.setEpoch i e).tail d = s.tail d := by unfold State.setEpoch; split <;> rfl
@[simp] theorem State.setEpoch_memRead (s : State) (i : BitVec 1) (e : Epoch) (d n : Nat) :
    (s.setEpoch i e).memRead d n = s.memRead d n := by unfold State.setEpoch; split <;> rfl
@[simp] theorem State.setEpoch_tx (s : State) (i : BitVec 1) (e : Epoch) (m : Nat) :
    (s.setEpoch i e).tx m = s.tx m := by unfold State.setEpoch; split <;> rfl
@[simp] theorem State.setEpoch_peripheral (s : State) (i : BitVec 1) (e : Epoch) (m : Nat) :
    (s.setEpoch i e).peripheral m = s.peripheral m := by unfold State.setEpoch; split <;> rfl
@[simp] theorem State.setEpoch_hwCounter (s : State) (i : BitVec 1) (e : Epoch) :
    (s.setEpoch i e).hwCounter = s.hwCounter := by unfold State.setEpoch; split <;> rfl
@[simp] theorem State.setEpoch_contents (s : State) (i : BitVec 1) (e : Epoch) (d : Nat) :
    (s.setEpoch i e).contents d = s.contents d := by unfold State.setEpoch; split <;> rfl
@[simp] theorem State.setEpoch_clearing (s : State) (i : BitVec 1) (e : Epoch) :
    (s.setEpoch i e).clearing = s.clearing := by unfold State.setEpoch; split <;> rfl
/-! ### `setLast` -/

@[simp] theorem State.setLast_cfg (s : State) (i : BitVec 1) (l : Micros) : (s.setLast i l).cfg = s.cfg := by unfold State.setLast; split <;> rfl
@[simp] theorem State.setLast_idx (s : State) (i : BitVec 1) (l : Micros) : (s.setLast i l).idx = s.idx := by unfold State.setLast; split <;> rfl
@[simp] theorem State.setLast_expiry (s : State) (i : BitVec 1) (l : Micros) : (s.setLast i l).expiry = s.expiry := by unfold State.setLast; split <;> rfl
@[simp] theorem State.setLast_chans (s : State) (i : BitVec 1) (l : Micros) : (s.setLast i l).chans = s.chans := by unfold State.setLast; split <;> rfl
@[simp] theorem State.setLast_txState (s : State) (i : BitVec 1) (l : Micros) : (s.setLast i l).txState = s.txState := by unfold State.setLast; split <;> rfl
@[simp] theorem State.setLast_inflight (s : State) (i : BitVec 1) (l : Micros) : (s.setLast i l).inflight = s.inflight := by unfold State.setLast; split <;> rfl
@[simp] theorem State.setLast_req (s : State) (i : BitVec 1) (l : Micros) : (s.setLast i l).req = s.req := by unfold State.setLast; split <;> rfl
@[simp] theorem State.setLast_result (s : State) (i : BitVec 1) (l : Micros) : (s.setLast i l).result = s.result := by unfold State.setLast; split <;> rfl
@[simp] theorem State.setLast_refusals (s : State) (i : BitVec 1) (l : Micros) : (s.setLast i l).refusals = s.refusals := by unfold State.setLast; split <;> rfl
@[simp] theorem State.setLast_tau (s : State) (i : BitVec 1) (l : Micros) : (s.setLast i l).tau = s.tau := by unfold State.setLast; split <;> rfl
@[simp] theorem State.setLast_hw (s : State) (i : BitVec 1) (l : Micros) : (s.setLast i l).hw = s.hw := by unfold State.setLast; split <;> rfl
@[simp] theorem State.setLast_script (s : State) (i : BitVec 1) (l : Micros) : (s.setLast i l).script = s.script := by unfold State.setLast; split <;> rfl
@[simp] theorem State.setLast_expiryOf (s : State) (i : BitVec 1) (l : Micros) (t : Nat) :
    (s.setLast i l).expiryOf t = s.expiryOf t := by unfold State.setLast; split <;> rfl
@[simp] theorem State.setLast_chan (s : State) (i : BitVec 1) (l : Micros) (d : Nat) :
    (s.setLast i l).chan d = s.chan d := by unfold State.setLast; split <;> rfl
@[simp] theorem State.setLast_head (s : State) (i : BitVec 1) (l : Micros) (d : Nat) :
    (s.setLast i l).head d = s.head d := by unfold State.setLast; split <;> rfl
@[simp] theorem State.setLast_tail (s : State) (i : BitVec 1) (l : Micros) (d : Nat) :
    (s.setLast i l).tail d = s.tail d := by unfold State.setLast; split <;> rfl
@[simp] theorem State.setLast_memRead (s : State) (i : BitVec 1) (l : Micros) (d n : Nat) :
    (s.setLast i l).memRead d n = s.memRead d n := by unfold State.setLast; split <;> rfl
@[simp] theorem State.setLast_tx (s : State) (i : BitVec 1) (l : Micros) (m : Nat) :
    (s.setLast i l).tx m = s.tx m := by unfold State.setLast; split <;> rfl
@[simp] theorem State.setLast_peripheral (s : State) (i : BitVec 1) (l : Micros) (m : Nat) :
    (s.setLast i l).peripheral m = s.peripheral m := by unfold State.setLast; split <;> rfl
@[simp] theorem State.setLast_hwCounter (s : State) (i : BitVec 1) (l : Micros) :
    (s.setLast i l).hwCounter = s.hwCounter := by unfold State.setLast; split <;> rfl
@[simp] theorem State.setLast_contents (s : State) (i : BitVec 1) (l : Micros) (d : Nat) :
    (s.setLast i l).contents d = s.contents d := by unfold State.setLast; split <;> rfl
@[simp] theorem State.setLast_clearing (s : State) (i : BitVec 1) (l : Micros) :
    (s.setLast i l).clearing = s.clearing := by unfold State.setLast; split <;> rfl
/-! ### `setIdx` -/

@[simp] theorem State.setIdx_cfg (s : State) (i : BitVec 1) : (s.setIdx i).cfg = s.cfg := rfl
@[simp] theorem State.setIdx_slot0 (s : State) (i : BitVec 1) : (s.setIdx i).slot0 = s.slot0 := rfl
@[simp] theorem State.setIdx_slot1 (s : State) (i : BitVec 1) : (s.setIdx i).slot1 = s.slot1 := rfl
@[simp] theorem State.setIdx_expiry (s : State) (i : BitVec 1) : (s.setIdx i).expiry = s.expiry := rfl
@[simp] theorem State.setIdx_chans (s : State) (i : BitVec 1) : (s.setIdx i).chans = s.chans := rfl
@[simp] theorem State.setIdx_txState (s : State) (i : BitVec 1) : (s.setIdx i).txState = s.txState := rfl
@[simp] theorem State.setIdx_inflight (s : State) (i : BitVec 1) : (s.setIdx i).inflight = s.inflight := rfl
@[simp] theorem State.setIdx_req (s : State) (i : BitVec 1) : (s.setIdx i).req = s.req := rfl
@[simp] theorem State.setIdx_result (s : State) (i : BitVec 1) : (s.setIdx i).result = s.result := rfl
@[simp] theorem State.setIdx_refusals (s : State) (i : BitVec 1) : (s.setIdx i).refusals = s.refusals := rfl
@[simp] theorem State.setIdx_tau (s : State) (i : BitVec 1) : (s.setIdx i).tau = s.tau := rfl
@[simp] theorem State.setIdx_hw (s : State) (i : BitVec 1) : (s.setIdx i).hw = s.hw := rfl
@[simp] theorem State.setIdx_script (s : State) (i : BitVec 1) : (s.setIdx i).script = s.script := rfl
@[simp] theorem State.setIdx_slot (s : State) (i : BitVec 1) (j : BitVec 1) :
    (s.setIdx i).slot j = s.slot j := rfl
@[simp] theorem State.setIdx_expiryOf (s : State) (i : BitVec 1) (t : Nat) :
    (s.setIdx i).expiryOf t = s.expiryOf t := rfl
@[simp] theorem State.setIdx_chan (s : State) (i : BitVec 1) (d : Nat) :
    (s.setIdx i).chan d = s.chan d := rfl
@[simp] theorem State.setIdx_head (s : State) (i : BitVec 1) (d : Nat) :
    (s.setIdx i).head d = s.head d := rfl
@[simp] theorem State.setIdx_tail (s : State) (i : BitVec 1) (d : Nat) :
    (s.setIdx i).tail d = s.tail d := rfl
@[simp] theorem State.setIdx_memRead (s : State) (i : BitVec 1) (d n : Nat) :
    (s.setIdx i).memRead d n = s.memRead d n := rfl
@[simp] theorem State.setIdx_tx (s : State) (i : BitVec 1) (m : Nat) :
    (s.setIdx i).tx m = s.tx m := rfl
@[simp] theorem State.setIdx_peripheral (s : State) (i : BitVec 1) (m : Nat) :
    (s.setIdx i).peripheral m = s.peripheral m := rfl
@[simp] theorem State.setIdx_hwCounter (s : State) (i : BitVec 1) :
    (s.setIdx i).hwCounter = s.hwCounter := rfl
@[simp] theorem State.setIdx_contents (s : State) (i : BitVec 1) (d : Nat) :
    (s.setIdx i).contents d = s.contents d := rfl
@[simp] theorem State.setIdx_clearing (s : State) (i : BitVec 1) :
    (s.setIdx i).clearing = s.clearing := rfl
/-! ### `setExpiry` -/

@[simp] theorem State.setExpiry_cfg (s : State) (t : Nat) (v : Micros) : (s.setExpiry t v).cfg = s.cfg := rfl
@[simp] theorem State.setExpiry_slot0 (s : State) (t : Nat) (v : Micros) : (s.setExpiry t v).slot0 = s.slot0 := rfl
@[simp] theorem State.setExpiry_slot1 (s : State) (t : Nat) (v : Micros) : (s.setExpiry t v).slot1 = s.slot1 := rfl
@[simp] theorem State.setExpiry_idx (s : State) (t : Nat) (v : Micros) : (s.setExpiry t v).idx = s.idx := rfl
@[simp] theorem State.setExpiry_chans (s : State) (t : Nat) (v : Micros) : (s.setExpiry t v).chans = s.chans := rfl
@[simp] theorem State.setExpiry_txState (s : State) (t : Nat) (v : Micros) : (s.setExpiry t v).txState = s.txState := rfl
@[simp] theorem State.setExpiry_inflight (s : State) (t : Nat) (v : Micros) : (s.setExpiry t v).inflight = s.inflight := rfl
@[simp] theorem State.setExpiry_req (s : State) (t : Nat) (v : Micros) : (s.setExpiry t v).req = s.req := rfl
@[simp] theorem State.setExpiry_result (s : State) (t : Nat) (v : Micros) : (s.setExpiry t v).result = s.result := rfl
@[simp] theorem State.setExpiry_refusals (s : State) (t : Nat) (v : Micros) : (s.setExpiry t v).refusals = s.refusals := rfl
@[simp] theorem State.setExpiry_tau (s : State) (t : Nat) (v : Micros) : (s.setExpiry t v).tau = s.tau := rfl
@[simp] theorem State.setExpiry_hw (s : State) (t : Nat) (v : Micros) : (s.setExpiry t v).hw = s.hw := rfl
@[simp] theorem State.setExpiry_script (s : State) (t : Nat) (v : Micros) : (s.setExpiry t v).script = s.script := rfl
@[simp] theorem State.setExpiry_slot (s : State) (t : Nat) (v : Micros) (j : BitVec 1) :
    (s.setExpiry t v).slot j = s.slot j := rfl
@[simp] theorem State.setExpiry_chan (s : State) (t : Nat) (v : Micros) (d : Nat) :
    (s.setExpiry t v).chan d = s.chan d := rfl
@[simp] theorem State.setExpiry_head (s : State) (t : Nat) (v : Micros) (d : Nat) :
    (s.setExpiry t v).head d = s.head d := rfl
@[simp] theorem State.setExpiry_tail (s : State) (t : Nat) (v : Micros) (d : Nat) :
    (s.setExpiry t v).tail d = s.tail d := rfl
@[simp] theorem State.setExpiry_memRead (s : State) (t : Nat) (v : Micros) (d n : Nat) :
    (s.setExpiry t v).memRead d n = s.memRead d n := rfl
@[simp] theorem State.setExpiry_tx (s : State) (t : Nat) (v : Micros) (m : Nat) :
    (s.setExpiry t v).tx m = s.tx m := rfl
@[simp] theorem State.setExpiry_peripheral (s : State) (t : Nat) (v : Micros) (m : Nat) :
    (s.setExpiry t v).peripheral m = s.peripheral m := rfl
@[simp] theorem State.setExpiry_hwCounter (s : State) (t : Nat) (v : Micros) :
    (s.setExpiry t v).hwCounter = s.hwCounter := rfl
@[simp] theorem State.setExpiry_contents (s : State) (t : Nat) (v : Micros) (d : Nat) :
    (s.setExpiry t v).contents d = s.contents d := rfl
@[simp] theorem State.setExpiry_clearing (s : State) (t : Nat) (v : Micros) :
    (s.setExpiry t v).clearing = s.clearing := rfl
/-! ### `setHead` -/

@[simp] theorem State.setHead_cfg (s : State) (c v : Nat) : (s.setHead c v).cfg = s.cfg := rfl
@[simp] theorem State.setHead_slot0 (s : State) (c v : Nat) : (s.setHead c v).slot0 = s.slot0 := rfl
@[simp] theorem State.setHead_slot1 (s : State) (c v : Nat) : (s.setHead c v).slot1 = s.slot1 := rfl
@[simp] theorem State.setHead_idx (s : State) (c v : Nat) : (s.setHead c v).idx = s.idx := rfl
@[simp] theorem State.setHead_expiry (s : State) (c v : Nat) : (s.setHead c v).expiry = s.expiry := rfl
@[simp] theorem State.setHead_txState (s : State) (c v : Nat) : (s.setHead c v).txState = s.txState := rfl
@[simp] theorem State.setHead_inflight (s : State) (c v : Nat) : (s.setHead c v).inflight = s.inflight := rfl
@[simp] theorem State.setHead_req (s : State) (c v : Nat) : (s.setHead c v).req = s.req := rfl
@[simp] theorem State.setHead_result (s : State) (c v : Nat) : (s.setHead c v).result = s.result := rfl
@[simp] theorem State.setHead_refusals (s : State) (c v : Nat) : (s.setHead c v).refusals = s.refusals := rfl
@[simp] theorem State.setHead_tau (s : State) (c v : Nat) : (s.setHead c v).tau = s.tau := rfl
@[simp] theorem State.setHead_hw (s : State) (c v : Nat) : (s.setHead c v).hw = s.hw := rfl
@[simp] theorem State.setHead_script (s : State) (c v : Nat) : (s.setHead c v).script = s.script := rfl
@[simp] theorem State.setHead_slot (s : State) (c v : Nat) (j : BitVec 1) :
    (s.setHead c v).slot j = s.slot j := rfl
@[simp] theorem State.setHead_expiryOf (s : State) (c v : Nat) (t : Nat) :
    (s.setHead c v).expiryOf t = s.expiryOf t := rfl
@[simp] theorem State.setHead_tx (s : State) (c v : Nat) (m : Nat) :
    (s.setHead c v).tx m = s.tx m := rfl
@[simp] theorem State.setHead_peripheral (s : State) (c v : Nat) (m : Nat) :
    (s.setHead c v).peripheral m = s.peripheral m := rfl
@[simp] theorem State.setHead_hwCounter (s : State) (c v : Nat) :
    (s.setHead c v).hwCounter = s.hwCounter := rfl
@[simp] theorem State.setHead_clearing (s : State) (c v : Nat) :
    (s.setHead c v).clearing = s.clearing := rfl
/-! ### `setTail` -/

@[simp] theorem State.setTail_cfg (s : State) (c v : Nat) : (s.setTail c v).cfg = s.cfg := rfl
@[simp] theorem State.setTail_slot0 (s : State) (c v : Nat) : (s.setTail c v).slot0 = s.slot0 := rfl
@[simp] theorem State.setTail_slot1 (s : State) (c v : Nat) : (s.setTail c v).slot1 = s.slot1 := rfl
@[simp] theorem State.setTail_idx (s : State) (c v : Nat) : (s.setTail c v).idx = s.idx := rfl
@[simp] theorem State.setTail_expiry (s : State) (c v : Nat) : (s.setTail c v).expiry = s.expiry := rfl
@[simp] theorem State.setTail_txState (s : State) (c v : Nat) : (s.setTail c v).txState = s.txState := rfl
@[simp] theorem State.setTail_inflight (s : State) (c v : Nat) : (s.setTail c v).inflight = s.inflight := rfl
@[simp] theorem State.setTail_req (s : State) (c v : Nat) : (s.setTail c v).req = s.req := rfl
@[simp] theorem State.setTail_result (s : State) (c v : Nat) : (s.setTail c v).result = s.result := rfl
@[simp] theorem State.setTail_refusals (s : State) (c v : Nat) : (s.setTail c v).refusals = s.refusals := rfl
@[simp] theorem State.setTail_tau (s : State) (c v : Nat) : (s.setTail c v).tau = s.tau := rfl
@[simp] theorem State.setTail_hw (s : State) (c v : Nat) : (s.setTail c v).hw = s.hw := rfl
@[simp] theorem State.setTail_script (s : State) (c v : Nat) : (s.setTail c v).script = s.script := rfl
@[simp] theorem State.setTail_slot (s : State) (c v : Nat) (j : BitVec 1) :
    (s.setTail c v).slot j = s.slot j := rfl
@[simp] theorem State.setTail_expiryOf (s : State) (c v : Nat) (t : Nat) :
    (s.setTail c v).expiryOf t = s.expiryOf t := rfl
@[simp] theorem State.setTail_tx (s : State) (c v : Nat) (m : Nat) :
    (s.setTail c v).tx m = s.tx m := rfl
@[simp] theorem State.setTail_peripheral (s : State) (c v : Nat) (m : Nat) :
    (s.setTail c v).peripheral m = s.peripheral m := rfl
@[simp] theorem State.setTail_hwCounter (s : State) (c v : Nat) :
    (s.setTail c v).hwCounter = s.hwCounter := rfl
@[simp] theorem State.setTail_clearing (s : State) (c v : Nat) :
    (s.setTail c v).clearing = s.clearing := rfl
/-! ### `memWrite` -/

@[simp] theorem State.memWrite_cfg (s : State) (c i : Nat) (v : Elem) : (s.memWrite c i v).cfg = s.cfg := rfl
@[simp] theorem State.memWrite_slot0 (s : State) (c i : Nat) (v : Elem) : (s.memWrite c i v).slot0 = s.slot0 := rfl
@[simp] theorem State.memWrite_slot1 (s : State) (c i : Nat) (v : Elem) : (s.memWrite c i v).slot1 = s.slot1 := rfl
@[simp] theorem State.memWrite_idx (s : State) (c i : Nat) (v : Elem) : (s.memWrite c i v).idx = s.idx := rfl
@[simp] theorem State.memWrite_expiry (s : State) (c i : Nat) (v : Elem) : (s.memWrite c i v).expiry = s.expiry := rfl
@[simp] theorem State.memWrite_txState (s : State) (c i : Nat) (v : Elem) : (s.memWrite c i v).txState = s.txState := rfl
@[simp] theorem State.memWrite_inflight (s : State) (c i : Nat) (v : Elem) : (s.memWrite c i v).inflight = s.inflight := rfl
@[simp] theorem State.memWrite_req (s : State) (c i : Nat) (v : Elem) : (s.memWrite c i v).req = s.req := rfl
@[simp] theorem State.memWrite_result (s : State) (c i : Nat) (v : Elem) : (s.memWrite c i v).result = s.result := rfl
@[simp] theorem State.memWrite_refusals (s : State) (c i : Nat) (v : Elem) : (s.memWrite c i v).refusals = s.refusals := rfl
@[simp] theorem State.memWrite_tau (s : State) (c i : Nat) (v : Elem) : (s.memWrite c i v).tau = s.tau := rfl
@[simp] theorem State.memWrite_hw (s : State) (c i : Nat) (v : Elem) : (s.memWrite c i v).hw = s.hw := rfl
@[simp] theorem State.memWrite_script (s : State) (c i : Nat) (v : Elem) : (s.memWrite c i v).script = s.script := rfl
@[simp] theorem State.memWrite_slot (s : State) (c i : Nat) (v : Elem) (j : BitVec 1) :
    (s.memWrite c i v).slot j = s.slot j := rfl
@[simp] theorem State.memWrite_expiryOf (s : State) (c i : Nat) (v : Elem) (t : Nat) :
    (s.memWrite c i v).expiryOf t = s.expiryOf t := rfl
@[simp] theorem State.memWrite_tx (s : State) (c i : Nat) (v : Elem) (m : Nat) :
    (s.memWrite c i v).tx m = s.tx m := rfl
@[simp] theorem State.memWrite_peripheral (s : State) (c i : Nat) (v : Elem) (m : Nat) :
    (s.memWrite c i v).peripheral m = s.peripheral m := rfl
@[simp] theorem State.memWrite_hwCounter (s : State) (c i : Nat) (v : Elem) :
    (s.memWrite c i v).hwCounter = s.hwCounter := rfl
@[simp] theorem State.memWrite_clearing (s : State) (c i : Nat) (v : Elem) :
    (s.memWrite c i v).clearing = s.clearing := rfl
/-! ### `setTx` -/

@[simp] theorem State.setTx_cfg (s : State) (k : Nat) (v : TxState) : (s.setTx k v).cfg = s.cfg := rfl
@[simp] theorem State.setTx_slot0 (s : State) (k : Nat) (v : TxState) : (s.setTx k v).slot0 = s.slot0 := rfl
@[simp] theorem State.setTx_slot1 (s : State) (k : Nat) (v : TxState) : (s.setTx k v).slot1 = s.slot1 := rfl
@[simp] theorem State.setTx_idx (s : State) (k : Nat) (v : TxState) : (s.setTx k v).idx = s.idx := rfl
@[simp] theorem State.setTx_expiry (s : State) (k : Nat) (v : TxState) : (s.setTx k v).expiry = s.expiry := rfl
@[simp] theorem State.setTx_chans (s : State) (k : Nat) (v : TxState) : (s.setTx k v).chans = s.chans := rfl
@[simp] theorem State.setTx_inflight (s : State) (k : Nat) (v : TxState) : (s.setTx k v).inflight = s.inflight := rfl
@[simp] theorem State.setTx_req (s : State) (k : Nat) (v : TxState) : (s.setTx k v).req = s.req := rfl
@[simp] theorem State.setTx_result (s : State) (k : Nat) (v : TxState) : (s.setTx k v).result = s.result := rfl
@[simp] theorem State.setTx_refusals (s : State) (k : Nat) (v : TxState) : (s.setTx k v).refusals = s.refusals := rfl
@[simp] theorem State.setTx_tau (s : State) (k : Nat) (v : TxState) : (s.setTx k v).tau = s.tau := rfl
@[simp] theorem State.setTx_hw (s : State) (k : Nat) (v : TxState) : (s.setTx k v).hw = s.hw := rfl
@[simp] theorem State.setTx_script (s : State) (k : Nat) (v : TxState) : (s.setTx k v).script = s.script := rfl
@[simp] theorem State.setTx_slot (s : State) (k : Nat) (v : TxState) (j : BitVec 1) :
    (s.setTx k v).slot j = s.slot j := rfl
@[simp] theorem State.setTx_expiryOf (s : State) (k : Nat) (v : TxState) (t : Nat) :
    (s.setTx k v).expiryOf t = s.expiryOf t := rfl
@[simp] theorem State.setTx_chan (s : State) (k : Nat) (v : TxState) (d : Nat) :
    (s.setTx k v).chan d = s.chan d := rfl
@[simp] theorem State.setTx_head (s : State) (k : Nat) (v : TxState) (d : Nat) :
    (s.setTx k v).head d = s.head d := rfl
@[simp] theorem State.setTx_tail (s : State) (k : Nat) (v : TxState) (d : Nat) :
    (s.setTx k v).tail d = s.tail d := rfl
@[simp] theorem State.setTx_memRead (s : State) (k : Nat) (v : TxState) (d n : Nat) :
    (s.setTx k v).memRead d n = s.memRead d n := rfl
@[simp] theorem State.setTx_peripheral (s : State) (k : Nat) (v : TxState) (m : Nat) :
    (s.setTx k v).peripheral m = s.peripheral m := rfl
@[simp] theorem State.setTx_hwCounter (s : State) (k : Nat) (v : TxState) :
    (s.setTx k v).hwCounter = s.hwCounter := rfl
@[simp] theorem State.setTx_contents (s : State) (k : Nat) (v : TxState) (d : Nat) :
    (s.setTx k v).contents d = s.contents d := rfl
@[simp] theorem State.setTx_clearing (s : State) (k : Nat) (v : TxState) :
    (s.setTx k v).clearing = s.clearing := rfl
/-! ### `setPeripheral` -/

@[simp] theorem State.setPeripheral_cfg (s : State) (k : Nat) (h : Peripheral) : (s.setPeripheral k h).cfg = s.cfg := rfl
@[simp] theorem State.setPeripheral_slot0 (s : State) (k : Nat) (h : Peripheral) : (s.setPeripheral k h).slot0 = s.slot0 := rfl
@[simp] theorem State.setPeripheral_slot1 (s : State) (k : Nat) (h : Peripheral) : (s.setPeripheral k h).slot1 = s.slot1 := rfl
@[simp] theorem State.setPeripheral_idx (s : State) (k : Nat) (h : Peripheral) : (s.setPeripheral k h).idx = s.idx := rfl
@[simp] theorem State.setPeripheral_expiry (s : State) (k : Nat) (h : Peripheral) : (s.setPeripheral k h).expiry = s.expiry := rfl
@[simp] theorem State.setPeripheral_chans (s : State) (k : Nat) (h : Peripheral) : (s.setPeripheral k h).chans = s.chans := rfl
@[simp] theorem State.setPeripheral_txState (s : State) (k : Nat) (h : Peripheral) : (s.setPeripheral k h).txState = s.txState := rfl
@[simp] theorem State.setPeripheral_inflight (s : State) (k : Nat) (h : Peripheral) : (s.setPeripheral k h).inflight = s.inflight := rfl
@[simp] theorem State.setPeripheral_req (s : State) (k : Nat) (h : Peripheral) : (s.setPeripheral k h).req = s.req := rfl
@[simp] theorem State.setPeripheral_result (s : State) (k : Nat) (h : Peripheral) : (s.setPeripheral k h).result = s.result := rfl
@[simp] theorem State.setPeripheral_refusals (s : State) (k : Nat) (h : Peripheral) : (s.setPeripheral k h).refusals = s.refusals := rfl
@[simp] theorem State.setPeripheral_tau (s : State) (k : Nat) (h : Peripheral) : (s.setPeripheral k h).tau = s.tau := rfl
@[simp] theorem State.setPeripheral_script (s : State) (k : Nat) (h : Peripheral) : (s.setPeripheral k h).script = s.script := rfl
@[simp] theorem State.setPeripheral_slot (s : State) (k : Nat) (h : Peripheral) (j : BitVec 1) :
    (s.setPeripheral k h).slot j = s.slot j := rfl
@[simp] theorem State.setPeripheral_expiryOf (s : State) (k : Nat) (h : Peripheral) (t : Nat) :
    (s.setPeripheral k h).expiryOf t = s.expiryOf t := rfl
@[simp] theorem State.setPeripheral_chan (s : State) (k : Nat) (h : Peripheral) (d : Nat) :
    (s.setPeripheral k h).chan d = s.chan d := rfl
@[simp] theorem State.setPeripheral_head (s : State) (k : Nat) (h : Peripheral) (d : Nat) :
    (s.setPeripheral k h).head d = s.head d := rfl
@[simp] theorem State.setPeripheral_tail (s : State) (k : Nat) (h : Peripheral) (d : Nat) :
    (s.setPeripheral k h).tail d = s.tail d := rfl
@[simp] theorem State.setPeripheral_memRead (s : State) (k : Nat) (h : Peripheral) (d n : Nat) :
    (s.setPeripheral k h).memRead d n = s.memRead d n := rfl
@[simp] theorem State.setPeripheral_tx (s : State) (k : Nat) (h : Peripheral) (m : Nat) :
    (s.setPeripheral k h).tx m = s.tx m := rfl
@[simp] theorem State.setPeripheral_hwCounter (s : State) (k : Nat) (h : Peripheral) :
    (s.setPeripheral k h).hwCounter = s.hwCounter := rfl
@[simp] theorem State.setPeripheral_contents (s : State) (k : Nat) (h : Peripheral) (d : Nat) :
    (s.setPeripheral k h).contents d = s.contents d := rfl
@[simp] theorem State.setPeripheral_clearing (s : State) (k : Nat) (h : Peripheral) :
    (s.setPeripheral k h).clearing = s.clearing := rfl
/-! ### `residue` -/

@[simp] theorem State.residue_cfg (s : State) (k : Nat) : (s.residue k).cfg = s.cfg := by unfold State.residue; split <;> rfl
@[simp] theorem State.residue_slot0 (s : State) (k : Nat) : (s.residue k).slot0 = s.slot0 := by unfold State.residue; split <;> rfl
@[simp] theorem State.residue_slot1 (s : State) (k : Nat) : (s.residue k).slot1 = s.slot1 := by unfold State.residue; split <;> rfl
@[simp] theorem State.residue_idx (s : State) (k : Nat) : (s.residue k).idx = s.idx := by unfold State.residue; split <;> rfl
@[simp] theorem State.residue_expiry (s : State) (k : Nat) : (s.residue k).expiry = s.expiry := by unfold State.residue; split <;> rfl
@[simp] theorem State.residue_chans (s : State) (k : Nat) : (s.residue k).chans = s.chans := by unfold State.residue; split <;> rfl
@[simp] theorem State.residue_txState (s : State) (k : Nat) : (s.residue k).txState = s.txState := by unfold State.residue; split <;> rfl
@[simp] theorem State.residue_inflight (s : State) (k : Nat) : (s.residue k).inflight = s.inflight := by unfold State.residue; split <;> rfl
@[simp] theorem State.residue_req (s : State) (k : Nat) : (s.residue k).req = s.req := by unfold State.residue; split <;> rfl
@[simp] theorem State.residue_result (s : State) (k : Nat) : (s.residue k).result = s.result := by unfold State.residue; split <;> rfl
@[simp] theorem State.residue_refusals (s : State) (k : Nat) : (s.residue k).refusals = s.refusals := by unfold State.residue; split <;> rfl
@[simp] theorem State.residue_tau (s : State) (k : Nat) : (s.residue k).tau = s.tau := by unfold State.residue; split <;> rfl
@[simp] theorem State.residue_script (s : State) (k : Nat) : (s.residue k).script = s.script := by unfold State.residue; split <;> rfl
@[simp] theorem State.residue_slot (s : State) (k : Nat) (j : BitVec 1) :
    (s.residue k).slot j = s.slot j := by unfold State.residue; split <;> rfl
@[simp] theorem State.residue_expiryOf (s : State) (k : Nat) (t : Nat) :
    (s.residue k).expiryOf t = s.expiryOf t := by unfold State.residue; split <;> rfl
@[simp] theorem State.residue_chan (s : State) (k : Nat) (d : Nat) :
    (s.residue k).chan d = s.chan d := by unfold State.residue; split <;> rfl
@[simp] theorem State.residue_head (s : State) (k : Nat) (d : Nat) :
    (s.residue k).head d = s.head d := by unfold State.residue; split <;> rfl
@[simp] theorem State.residue_tail (s : State) (k : Nat) (d : Nat) :
    (s.residue k).tail d = s.tail d := by unfold State.residue; split <;> rfl
@[simp] theorem State.residue_memRead (s : State) (k : Nat) (d n : Nat) :
    (s.residue k).memRead d n = s.memRead d n := by unfold State.residue; split <;> rfl
@[simp] theorem State.residue_tx (s : State) (k : Nat) (m : Nat) :
    (s.residue k).tx m = s.tx m := by unfold State.residue; split <;> rfl
@[simp] theorem State.residue_hwCounter (s : State) (k : Nat) :
    (s.residue k).hwCounter = s.hwCounter := by unfold State.residue; split <;> rfl
@[simp] theorem State.residue_contents (s : State) (k : Nat) (d : Nat) :
    (s.residue k).contents d = s.contents d := by unfold State.residue; split <;> rfl
@[simp] theorem State.residue_clearing (s : State) (k : Nat) :
    (s.residue k).clearing = s.clearing := by unfold State.residue; split <;> rfl
/-! ### `enter` -/

@[simp] theorem State.enter_cfg (s : State) (i : Instr) : (s.enter i).cfg = s.cfg := rfl
@[simp] theorem State.enter_slot0 (s : State) (i : Instr) : (s.enter i).slot0 = s.slot0 := rfl
@[simp] theorem State.enter_slot1 (s : State) (i : Instr) : (s.enter i).slot1 = s.slot1 := rfl
@[simp] theorem State.enter_idx (s : State) (i : Instr) : (s.enter i).idx = s.idx := rfl
@[simp] theorem State.enter_expiry (s : State) (i : Instr) : (s.enter i).expiry = s.expiry := rfl
@[simp] theorem State.enter_chans (s : State) (i : Instr) : (s.enter i).chans = s.chans := rfl
@[simp] theorem State.enter_txState (s : State) (i : Instr) : (s.enter i).txState = s.txState := rfl
@[simp] theorem State.enter_req (s : State) (i : Instr) : (s.enter i).req = s.req := rfl
@[simp] theorem State.enter_refusals (s : State) (i : Instr) : (s.enter i).refusals = s.refusals := rfl
@[simp] theorem State.enter_tau (s : State) (i : Instr) : (s.enter i).tau = s.tau := rfl
@[simp] theorem State.enter_hw (s : State) (i : Instr) : (s.enter i).hw = s.hw := rfl
@[simp] theorem State.enter_script (s : State) (i : Instr) : (s.enter i).script = s.script := rfl
@[simp] theorem State.enter_slot (s : State) (i : Instr) (j : BitVec 1) :
    (s.enter i).slot j = s.slot j := rfl
@[simp] theorem State.enter_expiryOf (s : State) (i : Instr) (t : Nat) :
    (s.enter i).expiryOf t = s.expiryOf t := rfl
@[simp] theorem State.enter_chan (s : State) (i : Instr) (d : Nat) :
    (s.enter i).chan d = s.chan d := rfl
@[simp] theorem State.enter_head (s : State) (i : Instr) (d : Nat) :
    (s.enter i).head d = s.head d := rfl
@[simp] theorem State.enter_tail (s : State) (i : Instr) (d : Nat) :
    (s.enter i).tail d = s.tail d := rfl
@[simp] theorem State.enter_memRead (s : State) (i : Instr) (d n : Nat) :
    (s.enter i).memRead d n = s.memRead d n := rfl
@[simp] theorem State.enter_tx (s : State) (i : Instr) (m : Nat) :
    (s.enter i).tx m = s.tx m := rfl
@[simp] theorem State.enter_peripheral (s : State) (i : Instr) (m : Nat) :
    (s.enter i).peripheral m = s.peripheral m := rfl
@[simp] theorem State.enter_hwCounter (s : State) (i : Instr) :
    (s.enter i).hwCounter = s.hwCounter := rfl
@[simp] theorem State.enter_contents (s : State) (i : Instr) (d : Nat) :
    (s.enter i).contents d = s.contents d := rfl
/-! ### `hold` -/

@[simp] theorem State.hold_cfg (s : State) (x : Ctx) (r : InFlight) : (s.hold x r).cfg = s.cfg := rfl
@[simp] theorem State.hold_slot0 (s : State) (x : Ctx) (r : InFlight) : (s.hold x r).slot0 = s.slot0 := rfl
@[simp] theorem State.hold_slot1 (s : State) (x : Ctx) (r : InFlight) : (s.hold x r).slot1 = s.slot1 := rfl
@[simp] theorem State.hold_idx (s : State) (x : Ctx) (r : InFlight) : (s.hold x r).idx = s.idx := rfl
@[simp] theorem State.hold_expiry (s : State) (x : Ctx) (r : InFlight) : (s.hold x r).expiry = s.expiry := rfl
@[simp] theorem State.hold_chans (s : State) (x : Ctx) (r : InFlight) : (s.hold x r).chans = s.chans := rfl
@[simp] theorem State.hold_txState (s : State) (x : Ctx) (r : InFlight) : (s.hold x r).txState = s.txState := rfl
@[simp] theorem State.hold_req (s : State) (x : Ctx) (r : InFlight) : (s.hold x r).req = s.req := rfl
@[simp] theorem State.hold_result (s : State) (x : Ctx) (r : InFlight) : (s.hold x r).result = s.result := rfl
@[simp] theorem State.hold_refusals (s : State) (x : Ctx) (r : InFlight) : (s.hold x r).refusals = s.refusals := rfl
@[simp] theorem State.hold_tau (s : State) (x : Ctx) (r : InFlight) : (s.hold x r).tau = s.tau := rfl
@[simp] theorem State.hold_hw (s : State) (x : Ctx) (r : InFlight) : (s.hold x r).hw = s.hw := rfl
@[simp] theorem State.hold_script (s : State) (x : Ctx) (r : InFlight) : (s.hold x r).script = s.script := rfl
@[simp] theorem State.hold_slot (s : State) (x : Ctx) (r : InFlight) (j : BitVec 1) :
    (s.hold x r).slot j = s.slot j := rfl
@[simp] theorem State.hold_expiryOf (s : State) (x : Ctx) (r : InFlight) (t : Nat) :
    (s.hold x r).expiryOf t = s.expiryOf t := rfl
@[simp] theorem State.hold_chan (s : State) (x : Ctx) (r : InFlight) (d : Nat) :
    (s.hold x r).chan d = s.chan d := rfl
@[simp] theorem State.hold_head (s : State) (x : Ctx) (r : InFlight) (d : Nat) :
    (s.hold x r).head d = s.head d := rfl
@[simp] theorem State.hold_tail (s : State) (x : Ctx) (r : InFlight) (d : Nat) :
    (s.hold x r).tail d = s.tail d := rfl
@[simp] theorem State.hold_memRead (s : State) (x : Ctx) (r : InFlight) (d n : Nat) :
    (s.hold x r).memRead d n = s.memRead d n := rfl
@[simp] theorem State.hold_tx (s : State) (x : Ctx) (r : InFlight) (m : Nat) :
    (s.hold x r).tx m = s.tx m := rfl
@[simp] theorem State.hold_peripheral (s : State) (x : Ctx) (r : InFlight) (m : Nat) :
    (s.hold x r).peripheral m = s.peripheral m := rfl
@[simp] theorem State.hold_hwCounter (s : State) (x : Ctx) (r : InFlight) :
    (s.hold x r).hwCounter = s.hwCounter := rfl
@[simp] theorem State.hold_contents (s : State) (x : Ctx) (r : InFlight) (d : Nat) :
    (s.hold x r).contents d = s.contents d := rfl
/-! ### `leave` -/

@[simp] theorem State.leave_cfg (s : State) (x : Ctx) (res : Result) : (s.leave x res).cfg = s.cfg := rfl
@[simp] theorem State.leave_slot0 (s : State) (x : Ctx) (res : Result) : (s.leave x res).slot0 = s.slot0 := rfl
@[simp] theorem State.leave_slot1 (s : State) (x : Ctx) (res : Result) : (s.leave x res).slot1 = s.slot1 := rfl
@[simp] theorem State.leave_idx (s : State) (x : Ctx) (res : Result) : (s.leave x res).idx = s.idx := rfl
@[simp] theorem State.leave_expiry (s : State) (x : Ctx) (res : Result) : (s.leave x res).expiry = s.expiry := rfl
@[simp] theorem State.leave_chans (s : State) (x : Ctx) (res : Result) : (s.leave x res).chans = s.chans := rfl
@[simp] theorem State.leave_txState (s : State) (x : Ctx) (res : Result) : (s.leave x res).txState = s.txState := rfl
@[simp] theorem State.leave_req (s : State) (x : Ctx) (res : Result) : (s.leave x res).req = s.req := rfl
@[simp] theorem State.leave_refusals (s : State) (x : Ctx) (res : Result) : (s.leave x res).refusals = s.refusals := rfl
@[simp] theorem State.leave_tau (s : State) (x : Ctx) (res : Result) : (s.leave x res).tau = s.tau := rfl
@[simp] theorem State.leave_hw (s : State) (x : Ctx) (res : Result) : (s.leave x res).hw = s.hw := rfl
@[simp] theorem State.leave_script (s : State) (x : Ctx) (res : Result) : (s.leave x res).script = s.script := rfl
@[simp] theorem State.leave_slot (s : State) (x : Ctx) (res : Result) (j : BitVec 1) :
    (s.leave x res).slot j = s.slot j := rfl
@[simp] theorem State.leave_expiryOf (s : State) (x : Ctx) (res : Result) (t : Nat) :
    (s.leave x res).expiryOf t = s.expiryOf t := rfl
@[simp] theorem State.leave_chan (s : State) (x : Ctx) (res : Result) (d : Nat) :
    (s.leave x res).chan d = s.chan d := rfl
@[simp] theorem State.leave_head (s : State) (x : Ctx) (res : Result) (d : Nat) :
    (s.leave x res).head d = s.head d := rfl
@[simp] theorem State.leave_tail (s : State) (x : Ctx) (res : Result) (d : Nat) :
    (s.leave x res).tail d = s.tail d := rfl
@[simp] theorem State.leave_memRead (s : State) (x : Ctx) (res : Result) (d n : Nat) :
    (s.leave x res).memRead d n = s.memRead d n := rfl
@[simp] theorem State.leave_tx (s : State) (x : Ctx) (res : Result) (m : Nat) :
    (s.leave x res).tx m = s.tx m := rfl
@[simp] theorem State.leave_peripheral (s : State) (x : Ctx) (res : Result) (m : Nat) :
    (s.leave x res).peripheral m = s.peripheral m := rfl
@[simp] theorem State.leave_hwCounter (s : State) (x : Ctx) (res : Result) :
    (s.leave x res).hwCounter = s.hwCounter := rfl
@[simp] theorem State.leave_contents (s : State) (x : Ctx) (res : Result) (d : Nat) :
    (s.leave x res).contents d = s.contents d := rfl
/-! ### `refuse` -/

@[simp] theorem State.refuse_cfg (s : State) (code : RefusalCode) : (s.refuse code).cfg = s.cfg := rfl
@[simp] theorem State.refuse_slot0 (s : State) (code : RefusalCode) : (s.refuse code).slot0 = s.slot0 := rfl
@[simp] theorem State.refuse_slot1 (s : State) (code : RefusalCode) : (s.refuse code).slot1 = s.slot1 := rfl
@[simp] theorem State.refuse_idx (s : State) (code : RefusalCode) : (s.refuse code).idx = s.idx := rfl
@[simp] theorem State.refuse_expiry (s : State) (code : RefusalCode) : (s.refuse code).expiry = s.expiry := rfl
@[simp] theorem State.refuse_chans (s : State) (code : RefusalCode) : (s.refuse code).chans = s.chans := rfl
@[simp] theorem State.refuse_txState (s : State) (code : RefusalCode) : (s.refuse code).txState = s.txState := rfl
@[simp] theorem State.refuse_inflight (s : State) (code : RefusalCode) : (s.refuse code).inflight = s.inflight := rfl
@[simp] theorem State.refuse_req (s : State) (code : RefusalCode) : (s.refuse code).req = s.req := rfl
@[simp] theorem State.refuse_tau (s : State) (code : RefusalCode) : (s.refuse code).tau = s.tau := rfl
@[simp] theorem State.refuse_hw (s : State) (code : RefusalCode) : (s.refuse code).hw = s.hw := rfl
@[simp] theorem State.refuse_script (s : State) (code : RefusalCode) : (s.refuse code).script = s.script := rfl
@[simp] theorem State.refuse_slot (s : State) (code : RefusalCode) (j : BitVec 1) :
    (s.refuse code).slot j = s.slot j := rfl
@[simp] theorem State.refuse_expiryOf (s : State) (code : RefusalCode) (t : Nat) :
    (s.refuse code).expiryOf t = s.expiryOf t := rfl
@[simp] theorem State.refuse_chan (s : State) (code : RefusalCode) (d : Nat) :
    (s.refuse code).chan d = s.chan d := rfl
@[simp] theorem State.refuse_head (s : State) (code : RefusalCode) (d : Nat) :
    (s.refuse code).head d = s.head d := rfl
@[simp] theorem State.refuse_tail (s : State) (code : RefusalCode) (d : Nat) :
    (s.refuse code).tail d = s.tail d := rfl
@[simp] theorem State.refuse_memRead (s : State) (code : RefusalCode) (d n : Nat) :
    (s.refuse code).memRead d n = s.memRead d n := rfl
@[simp] theorem State.refuse_tx (s : State) (code : RefusalCode) (m : Nat) :
    (s.refuse code).tx m = s.tx m := rfl
@[simp] theorem State.refuse_peripheral (s : State) (code : RefusalCode) (m : Nat) :
    (s.refuse code).peripheral m = s.peripheral m := rfl
@[simp] theorem State.refuse_hwCounter (s : State) (code : RefusalCode) :
    (s.refuse code).hwCounter = s.hwCounter := rfl
@[simp] theorem State.refuse_contents (s : State) (code : RefusalCode) (d : Nat) :
    (s.refuse code).contents d = s.contents d := rfl
@[simp] theorem State.refuse_clearing (s : State) (code : RefusalCode) :
    (s.refuse code).clearing = s.clearing := rfl

/-! ### What an update writes -/

@[simp] theorem State.setIdx_idx (s : State) (i : BitVec 1) : (s.setIdx i).idx = i := rfl
@[simp] theorem State.setExpiry_expiry (s : State) (t : Nat) (v : Micros) :
    (s.setExpiry t v).expiry = s.expiry.set t v := rfl
@[simp] theorem State.setTx_txState (s : State) (k : Nat) (v : TxState) :
    (s.setTx k v).txState = s.txState.set k v := rfl
@[simp] theorem State.setPeripheral_hw (s : State) (k : Nat) (h : Peripheral) :
    (s.setPeripheral k h).hw = s.hw.set k h := rfl
@[simp] theorem State.enter_inflight (s : State) (i : Instr) :
    (s.enter i).inflight = s.inflight.set s.req.src.ctx
      (some ⟨i, operand0 s.cfg i s.req.arg0, operand1 i s.req.arg1, 1, {}⟩) := rfl
@[simp] theorem State.enter_result (s : State) (i : Instr) :
    (s.enter i).result = s.result.set s.req.src.ctx .none := rfl
@[simp] theorem State.hold_inflight (s : State) (x : Ctx) (r : InFlight) :
    (s.hold x r).inflight = s.inflight.set x (some r) := rfl
@[simp] theorem State.leave_inflight (s : State) (x : Ctx) (res : Result) :
    (s.leave x res).inflight = s.inflight.set x none := rfl
@[simp] theorem State.leave_result (s : State) (x : Ctx) (res : Result) :
    (s.leave x res).result = s.result.set x res := rfl
@[simp] theorem State.refuse_result (s : State) (code : RefusalCode) :
    (s.refuse code).result = s.result.set s.req.src.ctx .none := rfl
@[simp] theorem State.refuse_refusals (s : State) (code : RefusalCode) :
    (s.refuse code).refusals = code :: s.refusals := rfl

/-! ### Values per context -/

@[simp] theorem PerCtx.get_set_same {α : Type} (p : PerCtx α) (x : Ctx) (v : α) : (p.set x v).get x = v := by
  cases x <;> rfl

theorem PerCtx.get_set_ne {α : Type} (p : PerCtx α) {x y : Ctx} (h : y ≠ x) (v : α) :
    (p.set x v).get y = p.get y := by
  cases x <;> cases y <;> first | rfl | exact absurd rfl h

@[simp] theorem PerCtx.set_set {α : Type} (p : PerCtx α) (x : Ctx) (v w : α) :
    (p.set x v).set x w = p.set x w := by
  cases x <;> rfl

theorem PerCtx.set_same {α : Type} (p : PerCtx α) (x : Ctx) {v : α} (h : p.get x = v) : p.set x v = p := by
  subst h; cases x <;> rfl

@[simp] theorem PerCtx.fg_eq_get {α : Type} (p : PerCtx α) : p.get .fg = p.fg := rfl
@[simp] theorem PerCtx.irq_eq_get {α : Type} (p : PerCtx α) : p.get .irq = p.irq := rfl
@[simp] theorem PerCtx.set_fg_fg {α : Type} (p : PerCtx α) (v : α) : (p.set .fg v).fg = v := rfl
@[simp] theorem PerCtx.set_fg_irq {α : Type} (p : PerCtx α) (v : α) : (p.set .fg v).irq = p.irq := rfl
@[simp] theorem PerCtx.set_irq_fg {α : Type} (p : PerCtx α) (v : α) : (p.set .irq v).fg = p.fg := rfl
@[simp] theorem PerCtx.set_irq_irq {α : Type} (p : PerCtx α) (v : α) : (p.set .irq v).irq = v := rfl

/-! ### The in-flight record -/

@[simp] theorem InFlight.at_instr (r : InFlight) (n : Nat) (t : Temps) : (r.at n t).instr = r.instr := rfl
@[simp] theorem InFlight.at_arg0 (r : InFlight) (n : Nat) (t : Temps) : (r.at n t).arg0 = r.arg0 := rfl
@[simp] theorem InFlight.at_arg1 (r : InFlight) (n : Nat) (t : Temps) : (r.at n t).arg1 = r.arg1 := rfl
@[simp] theorem InFlight.at_ustep (r : InFlight) (n : Nat) (t : Temps) : (r.at n t).ustep = n := rfl
@[simp] theorem InFlight.at_temps (r : InFlight) (n : Nat) (t : Temps) : (r.at n t).temps = t := rfl

end Sys2Proof.Machine
end

