-- ==== Sys2Proof/Laws/Ops.lean ====
section
/-!
SUPPORT. For each shared operation of `Machine/Ops.lean`, what it can do, said once.
-/

namespace Sys2Proof.Machine

/-! ## The record of an operation in flight commutes with every store -/

@[simp] theorem State.hold_hold (s : State) (x : Ctx) (r r' : InFlight) : (s.hold x r).hold x r' = s.hold x r' := by
  simp [State.hold]

@[simp] theorem State.hold_leave (s : State) (x : Ctx) (r : InFlight) (res : Result) :
    (s.hold x r).leave x res = s.leave x res := by
  simp [State.hold, State.leave]

@[simp] theorem State.hold_setEpoch (s : State) (x : Ctx) (r : InFlight) (i : BitVec 1) (e : Epoch) :
    (s.hold x r).setEpoch i e = (s.setEpoch i e).hold x r := by
  unfold State.setEpoch; split <;> rfl

@[simp] theorem State.hold_setLast (s : State) (x : Ctx) (r : InFlight) (i : BitVec 1) (l : Micros) :
    (s.hold x r).setLast i l = (s.setLast i l).hold x r := by
  unfold State.setLast; split <;> rfl

@[simp] theorem State.hold_setIdx (s : State) (x : Ctx) (r : InFlight) (i : BitVec 1) :
    (s.hold x r).setIdx i = (s.setIdx i).hold x r := rfl

@[simp] theorem State.hold_setExpiry (s : State) (x : Ctx) (r : InFlight) (t : Nat) (v : Micros) :
    (s.hold x r).setExpiry t v = (s.setExpiry t v).hold x r := rfl

@[simp] theorem State.hold_setHead (s : State) (x : Ctx) (r : InFlight) (c v : Nat) :
    (s.hold x r).setHead c v = (s.setHead c v).hold x r := rfl

@[simp] theorem State.hold_setTail (s : State) (x : Ctx) (r : InFlight) (c v : Nat) :
    (s.hold x r).setTail c v = (s.setTail c v).hold x r := rfl

@[simp] theorem State.hold_memWrite (s : State) (x : Ctx) (r : InFlight) (c i : Nat) (v : Elem) :
    (s.hold x r).memWrite c i v = (s.memWrite c i v).hold x r := rfl

@[simp] theorem State.hold_setTx (s : State) (x : Ctx) (r : InFlight) (k : Nat) (v : TxState) :
    (s.hold x r).setTx k v = (s.setTx k v).hold x r := rfl

@[simp] theorem State.hold_setPeripheral (s : State) (x : Ctx) (r : InFlight) (k : Nat) (h : Peripheral) :
    (s.hold x r).setPeripheral k h = (s.setPeripheral k h).hold x r := rfl

@[simp] theorem State.hold_residue (s : State) (x : Ctx) (r : InFlight) (k : Nat) :
    (s.hold x r).residue k = (s.residue k).hold x r := by
  unfold State.residue; simp only [State.hold_cfg]; split <;> rfl

/-! ## Channels -/

/-- The registers of a channel after an update of channel `c`. -/
theorem getD_modify {α : Type} (l : List α) (f : α → α) (c d : Nat) (z : α) :
    (l.modify c f).getD d z = if c = d ∧ d < l.length then f (l.getD d z) else l.getD d z := by
  simp only [List.getD_eq_getElem?_getD, List.getElem?_modify]
  by_cases hd : d < l.length
  · by_cases hc : c = d <;> simp [hc, hd]
  · simp [hd]

theorem getD_set {α : Type} (l : List α) (v : α) (c d : Nat) (z : α) :
    (l.set c v).getD d z = if c = d ∧ d < l.length then v else l.getD d z := by
  simp only [List.getD_eq_getElem?_getD, List.getElem?_set]
  by_cases hc : c = d
  · subst hc; by_cases hd : c < l.length <;> simp [hd]
  · simp [hc]

theorem State.setHead_chan (s : State) (c v d : Nat) :
    (s.setHead c v).chan d = if c = d ∧ d < s.chans.length then { s.chan d with head := v } else s.chan d :=
  getD_modify ..

theorem State.setTail_chan (s : State) (c v d : Nat) :
    (s.setTail c v).chan d = if c = d ∧ d < s.chans.length then { s.chan d with tail := v } else s.chan d :=
  getD_modify ..

theorem State.memWrite_chan (s : State) (c i : Nat) (v : Elem) (d : Nat) :
    (s.memWrite c i v).chan d =
      if c = d ∧ d < s.chans.length then { s.chan d with store := (s.chan d).store.set i v } else s.chan d :=
  getD_modify ..

theorem State.setHead_chan_ne (s : State) {c d : Nat} (v : Nat) (h : d ≠ c) : (s.setHead c v).chan d = s.chan d := by
  rw [State.setHead_chan, if_neg fun hc => h hc.1.symm]

theorem State.setTail_chan_ne (s : State) {c d : Nat} (v : Nat) (h : d ≠ c) : (s.setTail c v).chan d = s.chan d := by
  rw [State.setTail_chan, if_neg fun hc => h hc.1.symm]

theorem State.memWrite_chan_ne (s : State) {c d : Nat} (i : Nat) (v : Elem) (h : d ≠ c) :
    (s.memWrite c i v).chan d = s.chan d := by
  rw [State.memWrite_chan, if_neg fun hc => h hc.1.symm]

theorem State.setHead_chan_self (s : State) {c : Nat} (v : Nat) (h : c < s.chans.length) :
    (s.setHead c v).chan c = { s.chan c with head := v } := by rw [State.setHead_chan, if_pos ⟨rfl, h⟩]

theorem State.setTail_chan_self (s : State) {c : Nat} (v : Nat) (h : c < s.chans.length) :
    (s.setTail c v).chan c = { s.chan c with tail := v } := by rw [State.setTail_chan, if_pos ⟨rfl, h⟩]

theorem State.memWrite_chan_self (s : State) {c : Nat} (i : Nat) (v : Elem) (h : c < s.chans.length) :
    (s.memWrite c i v).chan c = { s.chan c with store := (s.chan c).store.set i v } := by
  rw [State.memWrite_chan, if_pos ⟨rfl, h⟩]

@[simp] theorem State.setHead_tail (s : State) (c v d : Nat) : (s.setHead c v).tail d = s.tail d := by
  unfold State.tail; rw [State.setHead_chan]; split <;> rfl

@[simp] theorem State.setTail_head (s : State) (c v d : Nat) : (s.setTail c v).head d = s.head d := by
  unfold State.head; rw [State.setTail_chan]; split <;> rfl

@[simp] theorem State.memWrite_head (s : State) (c i : Nat) (v : Elem) (d : Nat) :
    (s.memWrite c i v).head d = s.head d := by
  unfold State.head; rw [State.memWrite_chan]; split <;> rfl

@[simp] theorem State.memWrite_tail (s : State) (c i : Nat) (v : Elem) (d : Nat) :
    (s.memWrite c i v).tail d = s.tail d := by
  unfold State.tail; rw [State.memWrite_chan]; split <;> rfl

@[simp] theorem State.setHead_memRead (s : State) (c v d n : Nat) : (s.setHead c v).memRead d n = s.memRead d n := by
  unfold State.memRead; rw [State.setHead_chan]; split <;> rfl

@[simp] theorem State.setTail_memRead (s : State) (c v d n : Nat) : (s.setTail c v).memRead d n = s.memRead d n := by
  unfold State.memRead; rw [State.setTail_chan]; split <;> rfl

theorem State.setHead_head_self (s : State) {c : Nat} (v : Nat) (h : c < s.chans.length) :
    (s.setHead c v).head c = v := by rw [State.head, State.setHead_chan_self s v h]

theorem State.setTail_tail_self (s : State) {c : Nat} (v : Nat) (h : c < s.chans.length) :
    (s.setTail c v).tail c = v := by rw [State.tail, State.setTail_chan_self s v h]

/-- Read after write, at the written index of a storage array. -/
theorem State.memWrite_memRead_self (s : State) {c i : Nat} (v : Elem) (h : c < s.chans.length)
    (hi : i < (s.chan c).store.length) : (s.memWrite c i v).memRead c i = v := by
  rw [State.memRead, State.memWrite_chan_self s i v h]
  show ((s.chan c).store.set i v).getD i _ = v
  rw [getD_set, if_pos ⟨rfl, hi⟩]

/-- Read after write, at any other channel or index. -/
theorem State.memWrite_memRead_ne (s : State) {c i d n : Nat} (v : Elem) (h : d ≠ c ∨ n ≠ i) :
    (s.memWrite c i v).memRead d n = s.memRead d n := by
  unfold State.memRead
  rw [State.memWrite_chan]
  split
  · next hc =>
    rw [getD_set, if_neg]
    rintro ⟨rfl, -⟩
    exact h.elim (fun hd => hd hc.1.symm) fun hn => hn rfl
  · rfl

/-! ## The storage keeps its shape -/

@[simp] theorem State.setHead_chans_length (s : State) (c v : Nat) : (s.setHead c v).chans.length = s.chans.length := by
  simp [State.setHead]

@[simp] theorem State.setTail_chans_length (s : State) (c v : Nat) : (s.setTail c v).chans.length = s.chans.length := by
  simp [State.setTail]

@[simp] theorem State.memWrite_chans_length (s : State) (c i : Nat) (v : Elem) :
    (s.memWrite c i v).chans.length = s.chans.length := by
  simp [State.memWrite]

/-- A store of an element keeps the size of every storage array: the form of the storage is canonical. -/
theorem State.memWrite_store_length (s : State) (c i : Nat) (v : Elem) (d : Nat) :
    ((s.memWrite c i v).chan d).store.length = (s.chan d).store.length := by
  rw [State.memWrite_chan]; split <;> simp

/-! ## Peripherals -/

theorem State.setPeripheral_peripheral (s : State) (k : Nat) (h : Peripheral) (m : Nat) :
    (s.setPeripheral k h).peripheral m = if k = m ∧ m < s.hw.length then h else s.peripheral m :=
  getD_set ..

/-- `HwRecv(k)` answers absence and changes nothing, or takes the oldest pending frame (R271). -/
theorem State.hwRecv_cases (s : State) (k : Nat) :
    ((s.peripheral k).rxq = [] ∧ s.hwRecv k = none) ∨
    ∃ f rest, (s.peripheral k).rxq = f :: rest ∧
      s.hwRecv k = some (f, s.setPeripheral k { s.peripheral k with rxq := rest }) := by
  unfold State.hwRecv
  cases h : (s.peripheral k).rxq with
  | nil => exact .inl ⟨rfl, rfl⟩
  | cons f rest => exact .inr ⟨f, rest, rfl, rfl⟩

/-- `HwXmit(k, f)` answers what the environment chose; a rejected frame changes nothing (R272). -/
theorem State.hwXmit_eq (s : State) (k f : Nat) :
    s.hwXmit k f = if (s.peripheral k).accepts then
      (true, s.setPeripheral k { s.peripheral k with sent := (s.peripheral k).sent ++ [f] }) else (false, s) := rfl

/-! ## The tests before an operation -/

/-- A request is accepted exactly when it is legal (R99), is no direct interrupt entry (R317), is allowed to its source (R266)
and meets no clear in flight (R165). -/
theorem State.verdict_accepted_iff (s : State) (i : Instr) :
    s.verdict i = .accepted ↔
      i.legal s.cfg = true ∧ (i.event.isSome = true → s.req.src = .dispatcher) ∧
        i.roleAllows s.cfg s.req.src = true ∧ s.busyChannel i = none := by
  unfold State.verdict State.refusal
  cases hl : i.legal s.cfg <;> cases he : i.event.isSome <;> by_cases hs : s.req.src = .dispatcher <;>
    cases hr : i.roleAllows s.cfg s.req.src <;> cases hb : s.busyChannel i <;> simp_all

/-- The state in which an accepted operation begins, as a held record over the state with an idle result port. -/
theorem State.enter_eq_hold (s : State) (i : Instr) :
    s.enter i = State.hold { s with result := s.result.set s.req.src.ctx .none } s.req.src.ctx
      ⟨i, operand0 s.cfg i s.req.arg0, operand1 i s.req.arg1, 1, {}⟩ := rfl

/-- An accepted operation runs its micro-steps from the first one. -/
theorem State.perform_accepted {s : State} {i : Instr} {x : Ctx} (h : s.verdict i = .accepted)
    (hx : s.req.src.ctx = x) (f : InFlight → State → Micro) (n : Nat) :
    s.perform i f n = State.runMicro f x n (State.hold { s with result := s.result.set x .none } x
      ⟨i, operand0 s.cfg i s.req.arg0, operand1 i s.req.arg1, 1, {}⟩) := by
  subst hx; unfold State.perform; rw [h]; rfl

/-- A port whose context may issue the operation, with no clear in the way, has its request accepted (R99, R266, R165). -/
theorem State.verdict_port {s : State} {i : Instr} {x : Ctx} (hs : s.req.src = .port x) (legal : i.legal s.cfg = true)
    (role : i.portAllows s.cfg x = true) (quiet : x = .irq → ∀ c ∈ i.uses s.cfg, c ∉ s.clearing) :
    s.verdict i = .accepted := by
  rw [State.verdict_accepted_iff]
  refine ⟨legal, fun h => ?_, by rw [hs]; exact role, ?_⟩
  · cases i <;> simp_all [Instr.event, Instr.portAllows]
  · simp only [State.busyChannel, hs, Source.ctx]
    cases x with
    | fg => rfl
    | irq => simpa [List.find?_eq_none] using quiet rfl

/-- The dispatcher has an interrupt entry accepted when no clear is in the way (R99, R260, R165). -/
theorem State.verdict_dispatcher {s : State} {i : Instr} (hs : s.req.src = .dispatcher) (legal : i.legal s.cfg = true)
    (entry : i.event.isSome = true) (quiet : ∀ c ∈ i.uses s.cfg, c ∉ s.clearing) : s.verdict i = .accepted := by
  rw [State.verdict_accepted_iff]
  refine ⟨legal, fun _ => hs, by rw [hs]; exact entry, ?_⟩
  simp only [State.busyChannel, hs, Source.ctx]
  simpa [List.find?_eq_none] using quiet

theorem State.perform_refused {s : State} {i : Instr} {code : RefusalCode} (h : s.refusal i = some code)
    (f : InFlight → State → Micro) (n : Nat) : s.perform i f n = .next (s.refuse code) := by
  unfold State.perform State.verdict; rw [h]

theorem State.perform_busy {s : State} {i : Instr} {c : Nat} (h : s.verdict i = .busy c)
    (f : InFlight → State → Micro) (n : Nat) : s.perform i f n = .fault (.clearBusy c) := by
  unfold State.perform; rw [h]

/-- If a whole operation answers a next state, it was refused and recorded, or accepted and run. -/
theorem State.perform_next {s t : State} {i : Instr} {f : InFlight → State → Micro} {n : Nat}
    (h : s.perform i f n = .next t) :
    (∃ code, s.refusal i = some code ∧ t = s.refuse code) ∨
    (s.verdict i = .accepted ∧ State.runMicro f s.req.src.ctx n (s.enter i) = .next t) := by
  unfold State.perform State.verdict at h
  unfold State.verdict
  cases hr : s.refusal i with
  | some code => rw [hr] at h; exact .inl ⟨code, rfl, by simpa using h.symm⟩
  | none =>
    rw [hr] at h
    cases hb : s.busyChannel i with
    | some c => simp [hb] at h
    | none => rw [hb] at h; exact .inr ⟨by simp, h⟩

/-! ## Micro-steps -/

theorem State.microStep_goto {s s' : State} {f : InFlight → State → Micro} {x : Ctx} {r r' : InFlight}
    (h : f r s = .goto r' s') : s.microStep f x r = .next (s'.hold x r') := by unfold State.microStep; rw [h]

theorem State.microStep_done {s s' : State} {f : InFlight → State → Micro} {x : Ctx} {r : InFlight} {res : Result}
    (h : f r s = .done res s') : s.microStep f x r = .next (s'.leave x res) := by unfold State.microStep; rw [h]

theorem State.microStep_raise {s : State} {f : InFlight → State → Micro} {x : Ctx} {r : InFlight} {e : Fault}
    (h : f r s = .raise e) : s.microStep f x r = .fault e := by unfold State.microStep; rw [h]

/-- If a micro-step answers a next state, the operation goes on or returns. -/
theorem State.microStep_next {s t : State} {f : InFlight → State → Micro} {x : Ctx} {r : InFlight}
    (h : s.microStep f x r = .next t) :
    (∃ r' s', f r s = .goto r' s' ∧ t = s'.hold x r') ∨ (∃ res s', f r s = .done res s' ∧ t = s'.leave x res) := by
  unfold State.microStep at h
  cases hf : f r s with
  | goto r' s' => rw [hf] at h; exact .inl ⟨r', s', rfl, by simpa using h.symm⟩
  | done res s' => rw [hf] at h; exact .inr ⟨res, s', rfl, by simpa using h.symm⟩
  | raise e => simp [hf] at h

theorem State.runMicro_none {f : InFlight → State → Micro} {x : Ctx} {n : Nat} {s : State}
    (h : s.inflight.get x = none) : State.runMicro f x n s = .next s := by
  cases n <;> simp [State.runMicro, h]

/-- After an operation has left, no micro-step of it runs. -/
@[simp] theorem State.runMicro_leave (f : InFlight → State → Micro) (x : Ctx) (n : Nat) (s : State) (res : Result) :
    State.runMicro f x n (s.leave x res) = .next (s.leave x res) := State.runMicro_none (by simp)

/-- The next micro-step of an operation held at `r`. -/
theorem State.runMicro_hold (f : InFlight → State → Micro) (x : Ctx) (n : Nat) (s : State) (r : InFlight) :
    State.runMicro f x (n + 1) (s.hold x r) =
      match f r (s.hold x r) with
      | .goto r' s' => State.runMicro f x n (s'.hold x r')
      | .done res s' => .next (s'.leave x res)
      | .raise e => .fault e := by
  rw [State.runMicro]
  simp only [State.hold_inflight, PerCtx.get_set_same, State.microStep]
  cases hf : f r (s.hold x r) <;> simp

/-- A property of states that every micro-step keeps, along with what is known of the operation in flight, holds at the end of
a whole operation. -/
theorem State.runMicro_induction {f : InFlight → State → Micro} {x : Ctx} {P : State → Prop}
    (keep : ∀ s r t, P s → s.inflight.get x = some r → s.microStep f x r = .next t → P t) :
    ∀ {n : Nat} {s t : State}, P s → State.runMicro f x n s = .next t → P t
  | 0, s, t, hs, h => by
    rw [State.runMicro] at h
    cases h; exact hs
  | n + 1, s, t, hs, h => by
    rw [State.runMicro] at h
    cases hr : s.inflight.get x with
    | none => simp only [hr] at h; cases h; exact hs
    | some r =>
      simp only [hr] at h
      cases hm : s.microStep f x r with
      | next s' => rw [hm] at h; exact State.runMicro_induction keep (keep s r s' hs hr hm) h
      | fault e => simp [hm] at h
      | refused e => simp [hm] at h

end Sys2Proof.Machine
end

