-- ==== Sys2Proof/Laws/Channel.lean ====
section
/-!
SUPPORT. What the stores of a channel do to its contents (10_state.md rule R39): the producer's pair of stores appends, the consumer's
store removes the oldest, and both cursors at 0 leave nothing.
-/

namespace Sys2Proof.Machine

@[simp] theorem State.contents_length (s : State) (c : Nat) : (s.contents c).length = s.occupancy c := by
  simp [State.contents, State.occupancy]

/-- Two indices less than a capacity apart are different cells. -/
theorem cell_ne {cap h i j : Nat} (hij : i < j) (hj : j < i + cap) : (h + i) % cap ≠ (h + j) % cap := by
  intro he
  have hd : cap ∣ (h + j) - (h + i) := (Nat.modEq_iff_dvd' (by omega)).mp he
  have := Nat.le_of_dvd (by omega) hd
  omega

/-- The write end is the cell after the newest element. -/
theorem writeCell {cap t h : Nat} (ht : t < curMod cap) (hh : h < curMod cap) : (h + occ cap t h) % cap = t % cap := by
  rw [occ_eq ht hh]
  unfold curMod at *
  split
  · congr 1; omega
  · rw [show h + (t + 2 * cap - h) = t + cap * 2 by omega, Nat.add_mul_mod_self_left]

/-- The stores W4 and W5 of CH.WRITE append the element, when there is room (R161, R168). -/
theorem State.contents_append {s : State} {c : Nat} (h : s.channelSound c) (room : s.occupancy c < s.cfg.cap c)
    (v : Elem) :
    ((s.memWrite c (s.tail c % s.cfg.cap c) v).setTail c (cursorNext (s.cfg.cap c) (s.tail c))).contents c =
      s.contents c ++ [v] := by
  obtain ⟨hlen, hcap, hsize, ⟨hh, ht⟩, hocc⟩ := h
  have hn := occ_cursorNext_tail hcap ht hh room
  have hl : c < (s.memWrite c (s.tail c % s.cfg.cap c) v).chans.length := by simpa using hlen
  unfold State.occupancy at room
  simp only [State.contents, State.setTail_cfg, State.memWrite_cfg, State.setTail_tail_self _ _ hl, State.setTail_head,
    State.memWrite_head, State.setTail_memRead, hn, List.range_succ, List.map_append, List.map_cons, List.map_nil]
  congr 1
  · refine List.map_congr_left fun i hi => ?_
    have hi := List.mem_range.mp hi
    refine State.memWrite_memRead_ne s v (.inr ?_)
    rw [← writeCell ht hh]
    exact cell_ne hi (by omega)
  · rw [writeCell ht hh, State.memWrite_memRead_self s v hlen (by rw [hsize]; exact Nat.mod_lt _ (by omega))]

/-- The store Q5 of CH.READ removes the oldest element, the one that Q4 loads, when there is one (R162, R168). -/
theorem State.contents_remove {s : State} {c : Nat} (h : s.channelSound c) (some : s.tail c ≠ s.head c) :
    s.contents c = s.memRead c (s.head c % s.cfg.cap c) ::
      (s.setHead c (cursorNext (s.cfg.cap c) (s.head c))).contents c := by
  obtain ⟨hlen, hcap, -, ⟨hh, ht⟩, -⟩ := h
  have hne : occ (s.cfg.cap c) (s.tail c) (s.head c) ≠ 0 := fun h0 => some ((occ_eq_zero_iff ht hh).mp h0)
  have hn := occ_cursorNext_head hcap ht hh hne
  simp only [State.contents, State.setHead_cfg, State.setHead_head_self _ _ hlen, State.setHead_tail,
    State.setHead_memRead, ← hn, List.range_succ_eq_map, List.map_cons, List.map_map, Nat.add_zero]
  congr 1
  refine List.map_congr_left fun i _ => ?_
  simp only [Function.comp]
  congr 1
  rw [cursorNext_eq hh]
  split
  · next he =>
    unfold curMod at he
    rw [show s.head c + (i + 1) = (0 + i) + s.cfg.cap c * 2 by omega, Nat.add_mul_mod_self_left]
  · congr 1; omega

/-- With equal cursors there are no elements (R167). -/
theorem State.contents_empty {s : State} {c : Nat} (hh : s.head c < curMod (s.cfg.cap c)) (he : s.tail c = s.head c) :
    s.contents c = [] := by
  simp [State.contents, he, occ_self hh]

end Sys2Proof.Machine
end

