-- ==== Sys2Proof/Laws/Clock.lean ====
section
/-!
SUPPORT. The clock's arithmetic as numbers (40_clock.md rule R125).
-/

namespace Sys2Proof.Machine

/-- The concatenation `{e, s}` equals `e * 2^32 + s`. -/
theorem clockValue_toNat (e : Epoch) (s : Micros) : (clockValue e s).toNat = e.toNat * 2 ^ 32 + s.toNat := by
  rw [clockValue, BitVec.toNat_append, ← Nat.shiftLeft_add_eq_or_of_lt s.isLt, Nat.shiftLeft_eq]

/-- The epoch increment is taken modulo 2^32, the comparison is unsigned. -/
theorem rollover_toNat (e : Epoch) (l s : Micros) :
    (rollover e l s).toNat = if s.toNat < l.toNat then (e.toNat + 1) % 2 ^ 32 else e.toNat := by
  unfold rollover
  simp only [BitVec.lt_def]
  split <;> simp

/-- The division by 1000 is the quotient rounded down. -/
theorem millis_toNat (v : Clock) : (millis v).toNat = v.toNat / 1000 := by
  simp [millis, BitVec.toNat_udiv]

/-- The low 32 bits of a clock value are the counter sample (R142). -/
@[simp] theorem nowOf_clockValue (e : Epoch) (s : Micros) : nowOf (clockValue e s) = s := by
  apply BitVec.eq_of_toNat_eq
  have h := s.isLt
  rw [nowOf, BitVec.extractLsb'_toNat, clockValue_toNat]
  omega

/-- `HwCounter()` as a number (R270). -/
@[simp] theorem State.hwCounter_toNat (s : State) : s.hwCounter.toNat = s.tau % 2 ^ 32 := by
  simp [State.hwCounter]

/-! ## Slots: a store of one field leaves the other field and the other slot -/

theorem State.setEpoch_slot (s : State) (i j : BitVec 1) (e : Epoch) :
    (s.setEpoch i e).slot j = if i = j then { s.slot j with epoch := e } else s.slot j := by
  unfold State.setEpoch State.slot
  by_cases hi : i = 0 <;> by_cases hj : j = 0 <;> by_cases hij : i = j <;> simp_all
  exact absurd (by bv_omega) hij

theorem State.setLast_slot (s : State) (i j : BitVec 1) (l : Micros) :
    (s.setLast i l).slot j = if i = j then { s.slot j with last := l } else s.slot j := by
  unfold State.setLast State.slot
  by_cases hi : i = 0 <;> by_cases hj : j = 0 <;> by_cases hij : i = j <;> simp_all
  exact absurd (by bv_omega) hij

/-- The other slot is another slot. -/
theorem other_slot_ne (i : BitVec 1) : 1 - i ≠ i := by revert i; decide

end Sys2Proof.Machine
end

