-- ==== Sys2Proof/Laws/Decode.lean ====
section
/-!
SUPPORT. The two fields of a command word: what the encoder puts there and what the decoder takes out.
-/

namespace Sys2Proof

theorem opcodeField_eq (w : CmdWord) : opcodeField w = w.toNat % 256 := by
  simp [opcodeField, BitVec.extractLsb'_toNat]

theorem instField_eq (w : CmdWord) : instField w = w.toNat / 256 := by
  unfold instField
  have := w.isLt
  simp only [BitVec.extractLsb'_toNat, Nat.shiftRight_eq_div_pow]
  omega

/-- The value of a word made of its two fields. -/
theorem fields_toNat (inst op : BitVec 8) : (inst ++ op : CmdWord).toNat = inst.toNat * 256 + op.toNat := by
  rw [BitVec.toNat_append, ← Nat.shiftLeft_add_eq_or_of_lt op.isLt, Nat.shiftLeft_eq]

/-- Bits 7:0 of a word made of its two fields. -/
@[simp] theorem opcodeField_append (inst op : BitVec 8) : opcodeField (inst ++ op) = op.toNat := by
  have := op.isLt
  rw [opcodeField_eq, fields_toNat]; omega

/-- Bits 15:8 of a word made of its two fields. -/
@[simp] theorem instField_append (inst op : BitVec 8) : instField (inst ++ op) = inst.toNat := by
  have := op.isLt
  rw [instField_eq, fields_toNat]; omega

/-- A word is its two fields. -/
theorem fields_append (w : CmdWord) : BitVec.ofNat 8 (instField w) ++ BitVec.ofNat 8 (opcodeField w) = w := by
  have := w.isLt
  apply BitVec.eq_of_toNat_eq
  rw [fields_toNat, instField_eq, opcodeField_eq]
  simp only [BitVec.toNat_ofNat]
  omega

theorem opcodeField_lt (w : CmdWord) : opcodeField w < 256 := (w.extractLsb' 0 8).isLt

theorem instField_lt (w : CmdWord) : instField w < 256 := (w.extractLsb' 8 8).isLt

end Sys2Proof
end

