-- ==== Sys2Proof/Laws/Micro.lean ====
section
/-!
SUPPORT. What no micro-step of any operation touches: the parameters, the in-flight records, the ports, the recorded refusals, the
environment's time and the moves to come; and that an operation in flight keeps its opcode and operands.
-/

namespace Sys2Proof.Machine

/-- `t` agrees with `s` in every field that no micro-step writes. -/
structure State.SameOuter (s t : State) : Prop where
  cfg : t.cfg = s.cfg
  inflight : t.inflight = s.inflight
  req : t.req = s.req
  result : t.result = s.result
  refusals : t.refusals = s.refusals
  tau : t.tau = s.tau
  script : t.script = s.script

/-- A micro-step keeps the operation and its operands, and every field no micro-step writes. -/
def Micro.Within (r : InFlight) (s : State) : Micro → Prop
  | .goto r' s' => r'.instr = r.instr ∧ r'.arg0 = r.arg0 ∧ r'.arg1 = r.arg1 ∧ s.SameOuter s'
  | .done _ s' => s.SameOuter s'
  | .raise _ => True

/-- The same for a micro-step of a called operation. -/
def Sub.Within (s : State) : Sub → Prop
  | .more _ s' => s.SameOuter s'
  | .ret _ s' => s.SameOuter s'
  | .raise _ => True

/-! ## The updates -/

@[simp] theorem State.sameOuter_self (s : State) : s.SameOuter s := by constructor <;> simp

@[simp] theorem State.sameOuter_setEpoch (s : State) (i : BitVec 1) (e : Epoch) : s.SameOuter (s.setEpoch i e) := by
  constructor <;> simp

@[simp] theorem State.sameOuter_setLast (s : State) (i : BitVec 1) (l : Micros) : s.SameOuter (s.setLast i l) := by
  constructor <;> simp

@[simp] theorem State.sameOuter_setIdx (s : State) (i : BitVec 1) : s.SameOuter (s.setIdx i) := by
  constructor <;> simp

@[simp] theorem State.sameOuter_setExpiry (s : State) (t : Nat) (v : Micros) : s.SameOuter (s.setExpiry t v) := by
  constructor <;> simp

@[simp] theorem State.sameOuter_setHead (s : State) (c v : Nat) : s.SameOuter (s.setHead c v) := by
  constructor <;> simp

@[simp] theorem State.sameOuter_setTail (s : State) (c v : Nat) : s.SameOuter (s.setTail c v) := by
  constructor <;> simp

@[simp] theorem State.sameOuter_memWrite (s : State) (c i : Nat) (v : Elem) : s.SameOuter (s.memWrite c i v) := by
  constructor <;> simp

@[simp] theorem State.sameOuter_setTx (s : State) (k : Nat) (v : TxState) : s.SameOuter (s.setTx k v) := by
  constructor <;> simp

@[simp] theorem State.sameOuter_setPeripheral (s : State) (k : Nat) (h : Peripheral) :
    s.SameOuter (s.setPeripheral k h) := by
  constructor <;> simp

@[simp] theorem State.sameOuter_residue (s : State) (k : Nat) : s.SameOuter (s.residue k) := by
  unfold State.residue; split <;> simp

theorem State.sameOuter_hwRecv {s s' : State} {k f : Nat} (h : s.hwRecv k = some (f, s')) : s.SameOuter s' := by
  obtain ⟨-, h'⟩ | ⟨f', rest, -, h'⟩ := s.hwRecv_cases k <;> rw [h'] at h <;> cases h
  simp

@[simp] theorem State.sameOuter_hwXmit (s : State) (k f : Nat) : s.SameOuter (s.hwXmit k f).2 := by
  rw [State.hwXmit_eq]; split <;> simp

/-! ## The called operations -/

@[simp] theorem clkReadSub_within (j : Nat) (t : Temps) (s : State) : (clkReadSub j t s).Within s := by
  unfold clkReadSub; split <;> simp [Sub.Within]

@[simp] theorem chWriteSub_within (c : Nat) (v : Elem) (j : Nat) (t : Temps) (s : State) :
    (chWriteSub c v j t s).Within s := by
  unfold chWriteSub; repeat' split
  all_goals simp [Sub.Within]

@[simp] theorem chReadSub_within (c j : Nat) (t : Temps) (s : State) : (chReadSub c j t s).Within s := by
  unfold chReadSub; repeat' split
  all_goals simp [Sub.Within]

@[simp] theorem chPeekSub_within (c j : Nat) (t : Temps) (s : State) : (chPeekSub c j t s).Within s := by
  unfold chPeekSub; repeat' split
  all_goals simp [Sub.Within]

@[simp] theorem chDiscardSub_within (c j : Nat) (t : Temps) (s : State) : (chDiscardSub c j t s).Within s := by
  unfold chDiscardSub; repeat' split
  all_goals simp [Sub.Within]

@[simp] theorem chClearSub_within (c j : Nat) (t : Temps) (s : State) : (chClearSub c j t s).Within s := by
  unfold chClearSub; split <;> simp [Sub.Within]

@[simp] theorem cursorsSub_within (c j : Nat) (t : Temps) (s : State) : (cursorsSub c j t s).Within s := by
  unfold cursorsSub; split <;> simp [Sub.Within]

/-- What a called operation keeps, its caller keeps, if what the caller does at the return keeps it. -/
theorem Sub.andThen_within {u : Sub} {r : InFlight} {s : State} {k : Temps → State → Micro} (hu : u.Within s)
    (hk : ∀ t s', s.SameOuter s' → (k t s').Within r s) : (u.andThen r k).Within r s := by
  cases u with
  | more t s' => exact ⟨rfl, rfl, rfl, hu⟩
  | ret t s' => exact hk t s' hu
  | raise f => trivial

/-! ## The operations -/

theorem Micro.within_goto {r : InFlight} {s s' : State} {n : Nat} {t : Temps} (h : s.SameOuter s') :
    (Micro.goto (r.at n t) s').Within r s := ⟨rfl, rfl, rfl, h⟩

theorem Micro.within_done {r : InFlight} {s s' : State} {res : Result} (h : s.SameOuter s') :
    (Micro.done res s').Within r s := h

theorem microChRead_within (c : Nat) (r : InFlight) (s : State) : (microChRead c r s).Within r s :=
  Sub.andThen_within (by simp) fun _ _ h => h

theorem microChFull_within (c : Nat) (r : InFlight) (s : State) : (microChFull c r s).Within r s :=
  Sub.andThen_within (by simp) fun _ _ h => h

theorem microChEmpty_within (c : Nat) (r : InFlight) (s : State) : (microChEmpty c r s).Within r s :=
  Sub.andThen_within (by simp) fun _ _ h => h

theorem microIsrErr_within (kind : ErrKind) (k : Nat) (r : InFlight) (s : State) :
    (microIsrErr kind k r s).Within r s := by
  unfold microIsrErr
  split
  · exact Sub.andThen_within (by simp) fun _ _ h => Micro.within_goto h
  · exact Sub.andThen_within (by simp) fun _ _ h => h

theorem microIsrRx_within (k : Nat) (r : InFlight) (s : State) : (microIsrRx k r s).Within r s := by
  unfold microIsrRx
  dsimp only
  split
  · exact Micro.within_goto (by simp)
  · exact Micro.within_goto (by simp)
  · split
    · exact Micro.within_done (by simp)
    · next h => exact Micro.within_goto (State.sameOuter_hwRecv h)
  · exact Micro.within_done (by simp)
  · split
    · split
      · exact Sub.andThen_within (by simp) fun _ _ h => Micro.within_goto h
      · exact Micro.within_goto (by simp)
    · exact Sub.andThen_within (by simp) fun _ _ h => Micro.within_goto h

theorem microIsrTxDone_within (k : Nat) (r : InFlight) (s : State) : (microIsrTxDone k r s).Within r s := by
  unfold microIsrTxDone
  dsimp only
  repeat' split
  all_goals first
    | exact Micro.within_goto (by simp)
    | exact Micro.within_done (by simp)

theorem microLnkWrite_within (k : Nat) (r : InFlight) (s : State) : (microLnkWrite k r s).Within r s := by
  unfold microLnkWrite
  dsimp only
  repeat' split
  all_goals first
    | exact Micro.within_goto (by simp)
    | exact Micro.within_done (by simp)
    | exact Sub.andThen_within (by simp) fun _ _ h => Micro.within_goto h

theorem microLnkClear_within (k : Nat) (r : InFlight) (s : State) : (microLnkClear k r s).Within r s := by
  unfold microLnkClear
  dsimp only
  repeat' split
  all_goals first
    | exact Micro.within_goto (by simp)
    | exact Micro.within_done (by simp)

theorem microTckCheck_within (t : Nat) (r : InFlight) (s : State) : (microTckCheck t r s).Within r s := by
  unfold microTckCheck
  dsimp only
  repeat' split
  all_goals first
    | exact Micro.within_goto (by simp)
    | exact Micro.within_done (by simp)
    | exact Sub.andThen_within (by simp) fun _ _ h => Micro.within_goto h

theorem microTckReset_within (t : Nat) (r : InFlight) (s : State) : (microTckReset t r s).Within r s := by
  unfold microTckReset
  split
  · exact Micro.within_done (by simp)
  · exact Sub.andThen_within (by simp) fun _ _ h => Micro.within_goto h

theorem microClkUpdate_within (r : InFlight) (s : State) : (microClkUpdate r s).Within r s := by
  unfold microClkUpdate
  dsimp only
  split
  all_goals first
    | exact Micro.within_goto (by simp)
    | exact Micro.within_done (by simp)

/-- No micro-step of any operation touches the fields of `State.SameOuter`, nor the opcode and operands of its record. -/
theorem microOf_within (i : Instr) (r : InFlight) (s : State) : (microOf i r s).Within r s := by
  cases i with
  | clkUpdate => exact microClkUpdate_within r s
  | clkRead => exact Sub.andThen_within (by simp) fun _ _ h => h
  | clkReadMs => exact Sub.andThen_within (by simp) fun _ _ h => h
  | tckCheck t => exact microTckCheck_within t r s
  | tckReset t => exact microTckReset_within t r s
  | timePast => exact Micro.within_done (by simp)
  | chWrite c => exact Sub.andThen_within (by simp) fun _ _ h => h
  | chRead c => exact microChRead_within c r s
  | chPeek c => exact Sub.andThen_within (by simp) fun _ _ h => h
  | chDiscard c => exact Sub.andThen_within (by simp) fun _ _ h => h
  | chClear c => exact Sub.andThen_within (by simp) fun _ _ h => h
  | chFull c => exact microChFull_within c r s
  | chEmpty c => exact microChEmpty_within c r s
  | lnkRead k => exact microChRead_within _ r s
  | lnkWrite k => exact microLnkWrite_within k r s
  | lnkRxEmpty k => exact microChEmpty_within _ r s
  | lnkRxFull k => exact microChFull_within _ r s
  | lnkTxEmpty k => exact microChEmpty_within _ r s
  | lnkTxFull k => exact microChFull_within _ r s
  | lnkClear k => exact microLnkClear_within k r s
  | isrRx k => exact microIsrRx_within k r s
  | isrTxDone k => exact microIsrTxDone_within k r s
  | isrErrWarn k => exact microIsrErr_within .warning k r s
  | isrErrOvf k => exact microIsrErr_within .dataOverflow k r s
  | isrErrWake k => exact microIsrErr_within .wakeUp k r s
  | isrErrPassive k => exact microIsrErr_within .errorPassive k r s
  | isrErrArb k => exact microIsrErr_within .arbitrationLost k r s
  | isrErrBus k => exact microIsrErr_within .busError k r s

/-- A micro-step of the operation held in `x` as `r`: the operation goes on in `x` with the same opcode and operands, or it
leaves `x` with its result; nothing else of the fields of `State.SameOuter` changes. -/
theorem State.microStep_cases {s t : State} {i : Instr} {x : Ctx} {r : InFlight}
    (h : s.microStep (microOf i) x r = .next t) :
    ∃ s', s.SameOuter s' ∧
      ((∃ r', microOf i r s = .goto r' s' ∧ r'.instr = r.instr ∧ r'.arg0 = r.arg0 ∧ r'.arg1 = r.arg1 ∧
          t = s'.hold x r') ∨
        (∃ res, microOf i r s = .done res s' ∧ t = s'.leave x res)) := by
  have hw := microOf_within i r s
  obtain ⟨r', s', hf, rfl⟩ | ⟨res, s', hf, rfl⟩ := State.microStep_next h <;> rw [hf] at hw
  · exact ⟨s', hw.2.2.2, .inl ⟨r', hf, hw.1, hw.2.1, hw.2.2.1, rfl⟩⟩
  · exact ⟨s', hw, .inr ⟨res, hf, rfl⟩⟩

end Sys2Proof.Machine
end

