-- ==== Sys2Proof/Laws/PerInstr.lean ====
section
/-!
SUPPORT. Said of each operation in turn: where its opcode and its instance number stand in its command word (30_encoding.md rules
R90, R94).
-/

namespace Sys2Proof.Laws.OpcodeByte

/-- The command word of an operation carries its opcode in bits 7:0 and, when it fits, its instance number in bits 15:8. -/
def Statement (i : Instr) : Prop :=
  opcodeField (encode i) = i.opcode.toNat ∧ (i.wf = true → instField (encode i) = i.inst)

/-- The two fields of an encoded operation, for any of them. -/
theorem of_fields (i : Instr) : Statement i := by
  refine ⟨by simp [encode], fun h => ?_⟩
  simp only [Instr.wf, decide_eq_true_eq] at h
  simp [encode, Nat.mod_eq_of_lt h]

theorem clkUpdate : Statement .clkUpdate := of_fields _

theorem clkRead : Statement .clkRead := of_fields _

theorem clkReadMs : Statement .clkReadMs := of_fields _

theorem tckCheck (t : Nat) : Statement (.tckCheck t) := of_fields _

theorem tckReset (t : Nat) : Statement (.tckReset t) := of_fields _

theorem timePast : Statement .timePast := of_fields _

theorem chWrite (c : Nat) : Statement (.chWrite c) := of_fields _

theorem chRead (c : Nat) : Statement (.chRead c) := of_fields _

theorem chPeek (c : Nat) : Statement (.chPeek c) := of_fields _

theorem chDiscard (c : Nat) : Statement (.chDiscard c) := of_fields _

theorem chClear (c : Nat) : Statement (.chClear c) := of_fields _

theorem chFull (c : Nat) : Statement (.chFull c) := of_fields _

theorem chEmpty (c : Nat) : Statement (.chEmpty c) := of_fields _

theorem lnkRead (k : Nat) : Statement (.lnkRead k) := of_fields _

theorem lnkWrite (k : Nat) : Statement (.lnkWrite k) := of_fields _

theorem lnkRxEmpty (k : Nat) : Statement (.lnkRxEmpty k) := of_fields _

theorem lnkRxFull (k : Nat) : Statement (.lnkRxFull k) := of_fields _

theorem lnkTxEmpty (k : Nat) : Statement (.lnkTxEmpty k) := of_fields _

theorem lnkTxFull (k : Nat) : Statement (.lnkTxFull k) := of_fields _

theorem lnkClear (k : Nat) : Statement (.lnkClear k) := of_fields _

theorem isrRx (k : Nat) : Statement (.isrRx k) := of_fields _

theorem isrTxDone (k : Nat) : Statement (.isrTxDone k) := of_fields _

theorem isrErrWarn (k : Nat) : Statement (.isrErrWarn k) := of_fields _

theorem isrErrOvf (k : Nat) : Statement (.isrErrOvf k) := of_fields _

theorem isrErrWake (k : Nat) : Statement (.isrErrWake k) := of_fields _

theorem isrErrPassive (k : Nat) : Statement (.isrErrPassive k) := of_fields _

theorem isrErrArb (k : Nat) : Statement (.isrErrArb k) := of_fields _

theorem isrErrBus (k : Nat) : Statement (.isrErrBus k) := of_fields _

end Sys2Proof.Laws.OpcodeByte
end

