-- ==== Sys2Proof/Laws/Step.lean ====
section
/-!
SUPPORT. What a step can do, said once: a whole operation is its micro-steps run in a row, and a step is one move of the environment
or one micro-step.
-/

namespace Sys2Proof.Machine

/-- How many micro-steps a whole operation is given. -/
def wholeSteps (s : State) : Instr → Nat
  | .timePast => 1
  | .chClear _ | .chFull _ | .chEmpty _ | .lnkRxEmpty _ | .lnkRxFull _ | .lnkTxEmpty _ | .lnkTxFull _ => 2
  | .chPeek _ | .chDiscard _ => 4
  | .clkRead | .clkReadMs | .chWrite _ | .chRead _ | .lnkRead _ | .lnkClear _ => 5
  | .tckReset _ => 6
  | .clkUpdate | .tckCheck _ => 7
  | .isrTxDone _ => 8
  | .isrErrWarn _ | .isrErrOvf _ | .isrErrWake _ | .isrErrPassive _ | .isrErrArb _ | .isrErrBus _ => 10
  | .lnkWrite _ => 11
  | .isrRx k => isrRxSteps s k

/-- Every meaning is the tests of R258 and then the operation's own micro-steps. -/
theorem exec_eq_perform (i : Instr) (s : State) : exec i s = s.perform i (microOf i) (wholeSteps s i) := by
  cases i <;> rfl

/-- If an operation answers a next state, it was refused and recorded, or accepted and run. -/
theorem exec_next {i : Instr} {s t : State} (h : exec i s = .next t) :
    (∃ code, s.refusal i = some code ∧ t = s.refuse code) ∨
      (s.verdict i = .accepted ∧
        State.runMicro (microOf i) s.req.src.ctx (wholeSteps s i) (s.enter i) = .next t) :=
  State.perform_next (exec_eq_perform i s ▸ h)

/-- A refused operation. -/
theorem exec_refused {i : Instr} {s : State} {code : RefusalCode} (h : s.refusal i = some code) :
    exec i s = .next (s.refuse code) := by
  rw [exec_eq_perform, State.perform_refused h]

/-- An accepted operation begins at its first micro-step. -/
theorem exec_accepted {i : Instr} {s : State} {x : Ctx} (h : s.verdict i = .accepted) (hx : s.req.src.ctx = x) :
    exec i s = State.runMicro (microOf i) x (wholeSteps s i)
      (State.hold { s with result := s.result.set x .none } x
        ⟨i, operand0 s.cfg i s.req.arg0, operand1 i s.req.arg1, 1, {}⟩) := by
  rw [exec_eq_perform, State.perform_accepted h hx]

/-- Accepting and holding a request: refused and recorded, or entered. -/
theorem State.issue_next {s t : State} {i : Instr} (h : s.issue i = .next t) :
    (∃ code, s.refusal i = some code ∧ t = s.refuse code) ∨ (s.verdict i = .accepted ∧ t = s.enter i) := by
  unfold State.issue State.verdict at h
  unfold State.verdict
  cases hr : s.refusal i with
  | some code => rw [hr] at h; exact .inl ⟨code, rfl, by simpa using h.symm⟩
  | none =>
    rw [hr] at h
    cases hb : s.busyChannel i with
    | some c => simp [hb] at h
    | none => rw [hb] at h; exact .inr ⟨by simp, by simpa using h.symm⟩

/-- One micro-step of the machine: that of the context that has the processor, or nothing when no operation is in flight
(R261, R290). -/
theorem State.advance_cases {s t : State} (h : s.advance = .next t) :
    (∃ r, s.inflight.irq = some r ∧ s.microStep (microOf r.instr) .irq r = .next t) ∨
    (s.inflight.irq = none ∧ ∃ r, s.inflight.fg = some r ∧ s.microStep (microOf r.instr) .fg r = .next t) ∨
    (s.inflight.irq = none ∧ s.inflight.fg = none ∧ t = s) := by
  unfold State.advance at h
  cases hi : s.inflight.irq with
  | some r => rw [hi] at h; exact .inl ⟨r, rfl, h⟩
  | none =>
    rw [hi] at h
    cases hf : s.inflight.fg with
    | some r => rw [hf] at h; exact .inr (.inl ⟨rfl, r, rfl, h⟩)
    | none => rw [hf] at h; exact .inr (.inr ⟨rfl, rfl, by simpa using h.symm⟩)

/-- Starting an operation: whole, or accepted and held. -/
theorem State.start_next {s t : State} {whole : Bool} {req : Request} {i : Instr}
    (h : s.start whole req i = .next t) :
    exec i { s with req := req } = .next t ∨ ({ s with req := req }).issue i = .next t := by
  cases whole
  · exact .inr h
  · exact .inl h

/-- What a step can do: nothing or one micro-step with the script as it is (no move is due, or the move waits for its context);
one micro-step by a move; the start of an operation; a refusal; an event that is not attached; or a change of the
environment. -/
theorem step_cases {s t : State} (h : step s = .next t) :
    s.advance = .next t ∨
    ∃ rest, s.script.tail = rest ∧
      (State.advance { s with script := rest } = .next t ∨
        (∃ whole req i, State.start { s with script := rest } whole req i = .next t ∧ s.ready req.src.ctx = true) ∨
        (∃ req, t = State.refuse { s with script := rest, req := req } .illegalCommand) ∨
        t = { s with script := rest } ∨
        (∃ us, t = { s with tau := s.tau + us, script := rest }) ∨
        (∃ k f, t = State.onPeripheral { s with script := rest } k f)) := by
  unfold step at h
  cases hs : s.script with
  | nil => rw [hs] at h; exact .inl h
  | cons m rest =>
    rw [hs] at h
    cases m with
    | request whole x w a0 a1 =>
      simp only [State.move] at h
      cases hr : s.ready x with
      | false => rw [hr] at h; exact .inl h
      | true =>
        simp only [hr, if_true, State.command] at h
        refine .inr ⟨rest, rfl, .inr ?_⟩
        cases hd : decode w with
        | ok i => rw [hd] at h; exact .inl ⟨whole, _, i, h, hr⟩
        | error e => rw [hd] at h; exact .inr (.inl ⟨⟨.port x, a0, a1⟩, by simpa using h.symm⟩)
    | event whole k ev =>
      simp only [State.move] at h
      cases hr : s.ready .irq with
      | false => rw [hr] at h; exact .inl h
      | true =>
        simp only [hr, if_true, State.serve] at h
        refine .inr ⟨rest, rfl, .inr ?_⟩
        cases ha : s.cfg.attached k ev with
        | true => simp only [ha, if_true] at h; exact .inl ⟨whole, _, _, h, hr⟩
        | false => simp only [ha] at h; exact .inr (.inr (.inl (by simpa using h.symm)))
    | advance => exact .inr ⟨rest, rfl, .inl h⟩
    | elapse us => exact .inr ⟨rest, rfl, .inr (.inr (.inr (.inr (.inl ⟨us, by simpa [State.move] using h.symm⟩))))⟩
    | arrive k f => exact .inr ⟨rest, rfl, .inr (.inr (.inr (.inr (.inr ⟨k, _, by simpa [State.move] using h.symm⟩))))⟩
    | answer k b => exact .inr ⟨rest, rfl, .inr (.inr (.inr (.inr (.inr ⟨k, _, by simpa [State.move] using h.symm⟩))))⟩
    | transmitting k b =>
      exact .inr ⟨rest, rfl, .inr (.inr (.inr (.inr (.inr ⟨k, _, by simpa [State.move] using h.symm⟩))))⟩

end Sys2Proof.Machine
end

