-- ==== Sys2Proof/Tests/Slice0.lean ====
section
/-!
SUPPORT. Tests. The words are written out from rule R90 and the map R94; the other expected values are those of 95_test_vectors.md, whose
table is named at each test. Every test is one operation or one step on the small state `st` below, which has the configuration of
those tables with every register the spec leaves unspecified at 0.
-/

namespace Sys2Proof.Tests

open Sys2Proof.Machine

/-! ## Ill-formed terms are refused -/

theorem test_instr_instance_too_large : (Instr.chRead 256).wf = false := by decide

theorem test_instr_largest_instance : (Instr.chRead 255).wf = true := by decide

theorem test_params_sample : Config.sample.wf = true := by decide

/-- A channel of capacity 0 (R6: C >= 1). -/
theorem test_params_capacity_zero : Params.wf { Config.sample with chans := [⟨0, 8, .fg, .irq⟩], links := [] } = false := by
  decide

/-- A link with neither side (R6: at least one true). -/
theorem test_params_link_without_sides :
    Params.wf { Config.sample with links := [⟨false, false, false, .buffered, 0, 0⟩] } = false := by decide

/-- A link whose channel does not exist. -/
theorem test_params_no_such_channel :
    Params.wf { Config.sample with links := [⟨false, true, false, .buffered, 0, 6⟩] } = false := by decide

/-- A channel owned by both sides of a link (R41). -/
theorem test_params_channel_owned_twice :
    Params.wf { Config.sample with links := [⟨true, true, false, .buffered, 3, 3⟩] } = false := by decide

/-! ## Words written out as `inst`, `unit`, `op` -/

theorem test_decode_clock :
    decode 0b0000000000000000 = .ok .clkUpdate ∧ decode 0b0000000000000001 = .ok .clkRead ∧
      decode 0b0000000000000010 = .ok .clkReadMs := ⟨rfl, rfl, rfl⟩

theorem test_decode_deadline :
    decode 0b0000000100010000 = .ok (.tckCheck 1) ∧ decode 0b1111111100010001 = .ok (.tckReset 255) ∧
      decode 0b0000000000010010 = .ok .timePast := ⟨rfl, rfl, rfl⟩

theorem test_decode_channel :
    decode 0b0000001000100000 = .ok (.chWrite 2) ∧ decode 0b0000001100100001 = .ok (.chRead 3) ∧
      decode 0b0000010000100010 = .ok (.chPeek 4) ∧ decode 0b0000010100100011 = .ok (.chDiscard 5) ∧
      decode 0b0000011000100100 = .ok (.chClear 6) ∧ decode 0b0000011100100101 = .ok (.chFull 7) ∧
      decode 0b0000100000100110 = .ok (.chEmpty 8) := ⟨rfl, rfl, rfl, rfl, rfl, rfl, rfl⟩

theorem test_decode_link :
    decode 0b0000000100110000 = .ok (.lnkRead 1) ∧ decode 0b0000001000110001 = .ok (.lnkWrite 2) ∧
      decode 0b0000001100110010 = .ok (.lnkRxEmpty 3) ∧ decode 0b0000010000110011 = .ok (.lnkRxFull 4) ∧
      decode 0b0000010100110100 = .ok (.lnkTxEmpty 5) ∧ decode 0b0000011000110101 = .ok (.lnkTxFull 6) ∧
      decode 0b0000011100110110 = .ok (.lnkClear 7) := ⟨rfl, rfl, rfl, rfl, rfl, rfl, rfl⟩

theorem test_decode_interrupt_entry :
    decode 0b0000000101000000 = .ok (.isrRx 1) ∧ decode 0b0000001001000001 = .ok (.isrTxDone 2) ∧
      decode 0b0000001101001000 = .ok (.isrErrWarn 3) ∧ decode 0b0000010001001001 = .ok (.isrErrOvf 4) ∧
      decode 0b0000010101001010 = .ok (.isrErrWake 5) ∧ decode 0b0000011001001011 = .ok (.isrErrPassive 6) ∧
      decode 0b0000011101001100 = .ok (.isrErrArb 7) ∧ decode 0b0000100001001101 = .ok (.isrErrBus 8) :=
  ⟨rfl, rfl, rfl, rfl, rfl, rfl, rfl, rfl⟩

/-- V-ENC: words that are no operation. -/
theorem test_decode_refused :
    decode 0x0101 = .error .instanceNotZero ∧ decode 0x0003 = .error .reservedOpcode ∧
      decode 0x0027 = .error .reservedOpcode ∧ decode 0x0042 = .error .reservedOpcode ∧
      decode 0x004E = .error .reservedOpcode ∧ decode 0x00FF = .error .reservedOpcode :=
  ⟨rfl, rfl, rfl, rfl, rfl, rfl⟩

/-- The host's question: a row's bits give the row's operation, and a bit above the word gives none. -/
theorem test_decode_table_word :
    decodeTableWord 16 0x0220 = some (.chWrite 2) ∧ decodeTableWord 16 0x0003 = none ∧
      decodeTableWord 32 0x10000 = none := ⟨rfl, rfl, rfl⟩

/-! ## The state the tests start from -/

/-- The reset state with 0 for every value the spec leaves unspecified at reset. -/
def st : State :=
  { State.reset with
    slot1 := ⟨0, 0⟩
    expiry := [0, 0]
    tau := 0
    chans := [⟨0, 0, [.raw 0, .raw 0, .raw 0, .raw 0]⟩, ⟨0, 0, [.raw 0xAA, .raw 0xBB, .raw 0xCC, .raw 0xDD]⟩,
      ⟨0, 0, [.raw 0xAA, .raw 0xBB, .raw 0xCC, .raw 0xDD]⟩,
      ⟨0, 0, [.data 5000 0xA001, .error 6000 .busError, .data 0 0, .data 0 0]⟩,
      ⟨0, 0, [.raw 0xA, .raw 0xB, .raw 0, .raw 0]⟩, ⟨0, 0, [.raw 0, .raw 0, .raw 0, .raw 0]⟩] }

/-- `st` with a request on the port of `x`. -/
def asked (x : Ctx) (a0 a1 : Nat) : State := { st with req := ⟨.port x, a0, a1⟩ }

/-- `s` as the dispatcher presents an operation to it. -/
def dispatched (s : State) : State := { s with req := ⟨.dispatcher, 0, 0⟩ }

/-- The cursors of channel `c` set. -/
def cursors (s : State) (c h t : Nat) : State := (s.setHead c h).setTail c t

/-- What an observer sees of a next state; `none` if the operation does not complete. -/
def seen {α : Type} (f : State → α) : Host.Outcome State Fault Refusal → Option α
  | .next t => some (f t)
  | _ => none

/-- The fault an operation ends in. -/
def faulted : Host.Outcome State Fault Refusal → Option Fault
  | .fault f => some f
  | _ => none

/-! ## The clock (V-CLK) -/

theorem test_clkUpdate_wrap :
    seen (fun t => (t.slot0, t.slot1, t.idx))
      (exec .clkUpdate { st with idx := 1, slot1 := ⟨7, 0xFFFFFFFF⟩, tau := 2 ^ 32 }) =
      some (⟨8, 0⟩, ⟨7, 0xFFFFFFFF⟩, 0) := by decide

theorem test_clkUpdate_epoch_overflow :
    seen (fun t => (t.slot0, t.slot1, t.idx)) (exec .clkUpdate { st with slot0 := ⟨0xFFFFFFFF, 0x10⟩, tau := 5 }) =
      some (⟨0xFFFFFFFF, 0x10⟩, ⟨0, 5⟩, 1) := by decide

theorem test_clkRead_wrap :
    seen (·.result.fg) (exec .clkRead { st with slot0 := ⟨0, 0x80000000⟩, tau := 2 ^ 32 + 0x10 }) =
      some (.res 64 0x0000000100000010) := by decide

theorem test_clkRead_equal :
    seen (·.result.fg) (exec .clkRead { st with slot0 := ⟨0, 0x80000000⟩, tau := 0x80000000 }) =
      some (.res 64 0x0000000080000000) := by decide

theorem test_clkReadMs :
    seen (·.result.fg) (exec .clkReadMs { st with slot0 := ⟨0, 0x80000000⟩, tau := 0x7FFFFFFF }) =
      some (.res 64 6442450) := by decide

theorem test_clkReadMs_truncates : seen (·.result.fg) (exec .clkReadMs { st with tau := 999 }) = some (.res 64 0) := by
  decide

/-! ## The comparator and the tickers (V-TP, V-TCK) -/

theorem test_timePast_wrapped : seen (·.result.irq) (exec .timePast (asked .irq 5 0xFFFFFFF0)) = some (.flag true) := by
  decide

theorem test_timePast_threshold :
    seen (·.result.fg) (exec .timePast (asked .fg 0x40000000 0)) = some (.flag false) := by decide

theorem test_tckCheck_fires :
    seen (fun t => (t.result.fg, t.expiry)) (exec (.tckCheck 1) { st with expiry := [7, 0xFFFFFFE8], tau := 0xFFFFFFE9 }) =
      some (.flag true, [7, 0x000003D0]) := by decide

theorem test_tckCheck_equal :
    seen (fun t => (t.result.fg, t.expiry)) (exec (.tckCheck 0) { st with expiry := [0xFFFFFFE8, 7], tau := 0xFFFFFFE8 }) =
      some (.flag false, [0xFFFFFFE8, 7]) := by decide

theorem test_tckReset :
    seen (fun t => (t.result.fg, t.expiry)) (exec (.tckReset 0) { st with tau := 0xFFFFFC00 }) =
      some (.none, [0xFFFFFFE8, 0]) := by decide

/-! ## The channel (V-CH) -/

theorem test_chWrite_cursor_wraps :
    seen (fun t => t.chan 1) (exec (.chWrite 1) (cursors (asked .fg 0x11 0) 1 7 7)) =
      some ⟨7, 0, [.raw 0xAA, .raw 0xBB, .raw 0xCC, .raw 0x11]⟩ := by decide

theorem test_chWrite_full_drops :
    seen (fun t => t.chan 1) (exec (.chWrite 1) (cursors (asked .fg 0xEE 0) 1 0 4)) =
      some ⟨0, 4, [.raw 0xAA, .raw 0xBB, .raw 0xCC, .raw 0xDD]⟩ := by decide

theorem test_chRead :
    seen (fun t => (t.result.irq, t.head 1, t.tail 1)) (exec (.chRead 1) (cursors (asked .irq 0 0) 1 7 0)) =
      some (.res 8 0xDD, 0, 0) := by decide

theorem test_chRead_empty :
    faulted (exec (.chRead 1) (cursors (asked .irq 0 0) 1 4 4)) = some (.readEmpty 1) := by decide

theorem test_chPeek :
    seen (fun t => (t.result.fg, t.head 2, t.tail 2)) (exec (.chPeek 2) (cursors (asked .fg 0 0) 2 1 4)) =
      some (.res 8 0xBB, 1, 4) := by decide

theorem test_chPeek_empty :
    faulted (exec (.chPeek 2) (cursors (asked .fg 0 0) 2 4 4)) = some (.peekEmpty 2) := by decide

theorem test_chDiscard :
    seen (fun t => (t.result.fg, t.head 2, t.tail 2)) (exec (.chDiscard 2) (cursors (asked .fg 0 0) 2 1 4)) =
      some (.none, 2, 4) := by decide

theorem test_chDiscard_empty :
    faulted (exec (.chDiscard 2) (cursors (asked .fg 0 0) 2 4 4)) = some (.discardEmpty 2) := by decide

theorem test_chClear :
    seen (fun t => t.chan 1) (exec (.chClear 1) (cursors (asked .fg 0 0) 1 6 1)) =
      some ⟨0, 0, [.raw 0xAA, .raw 0xBB, .raw 0xCC, .raw 0xDD]⟩ := by decide

theorem test_chFull :
    seen (·.result.fg) (exec (.chFull 1) (cursors (asked .fg 0 0) 1 6 2)) = some (.flag true) := by decide

theorem test_chEmpty :
    seen (·.result.irq) (exec (.chEmpty 1) (cursors (asked .irq 0 0) 1 6 2)) = some (.flag false) := by decide

/-! ## The receive side (V-RX, the examples of R196 to R201) -/

/-- V-RX: `Data(5000, 0xA001)` is 0x1388A001. -/
theorem test_lnkRead_data :
    seen (fun t => (t.result.fg, t.head 3)) (exec (.lnkRead 0) (cursors st 3 0 2)) = some (.res 81 0x1388A001, 1) := by
  decide

/-- V-RX: `Error(6000, bus-error)`. -/
theorem test_lnkRead_error :
    seen (·.result.fg) (exec (.lnkRead 0) (cursors st 3 1 2)) = some (.res 81 0x100000000000017700005) := by decide

theorem test_lnkRxEmpty : seen (·.result.fg) (exec (.lnkRxEmpty 0) st) = some (.flag true) := by decide

theorem test_lnkRxFull : seen (·.result.fg) (exec (.lnkRxFull 0) (cursors st 3 0 4)) = some (.flag true) := by decide

/-- Row "ISR.RX, 3, [f1, f2]". -/
theorem test_isrRx_stops_when_full :
    seen (fun t => ((t.chan 3).store.getD 3 (.raw 0), t.tail 3, (t.peripheral 0).rxq))
      (exec (.isrRx 0) (dispatched { cursors st 3 0 3 with tau := 5000123, hw := [⟨[0xA001, 0xA002], true, false, []⟩] })) =
      some (.data 5000 0xA001, 4, []) := by decide

/-- The same row with `RX_RESIDUE = retain`. -/
theorem test_isrRx_retain :
    seen (fun t => (t.tail 3, (t.peripheral 0).rxq))
      (exec (.isrRx 0) (dispatched { cursors st 3 0 3 with
        cfg := { Config.sample with rxResidue := .retain }, hw := [⟨[0xA001, 0xA002], true, false, []⟩] })) =
      some (4, [0xA002]) := by decide

theorem test_isrErrWarn :
    seen (fun t => t.contents 3) (exec (.isrErrWarn 0) (dispatched { cursors st 3 0 1 with tau := 5000999 })) =
      some [.data 5000 0xA001, .error 5000 .warning] := by decide

theorem test_isrErrOvf :
    seen (fun t => t.contents 3) (exec (.isrErrOvf 0) (dispatched { st with tau := 1999 })) =
      some [.error 1 .dataOverflow] := by decide

theorem test_isrErrWake :
    seen (fun t => t.contents 3) (exec (.isrErrWake 0) (dispatched st)) = some [.error 0 .wakeUp] := by decide

theorem test_isrErrPassive :
    seen (fun t => t.contents 3)
      (exec (.isrErrPassive 0) (dispatched { st with slot0 := ⟨1, 0⟩, tau := 2 ^ 32 + 0x30 })) =
      some [.error 4294967 .errorPassive] := by decide

theorem test_isrErrArb :
    seen (fun t => t.contents 3) (exec (.isrErrArb 0) (dispatched { st with tau := 2500 })) =
      some [.error 2 .arbitrationLost] := by decide

theorem test_isrErrBus :
    seen (fun t => t.contents 3) (exec (.isrErrBus 0) (dispatched { st with tau := 999 })) =
      some [.error 0 .busError] := by decide

/-! ## The transmit side (V-TX) -/

/-- A peripheral that refuses. -/
def refusing : Peripheral := ⟨[], false, false, []⟩

/-- What the transmit tests look at: the state register, the contents of `tx(0)` and what the hardware was handed. -/
def txView (t : State) : TxState × List Elem × List Nat := (t.tx 0, t.contents 4, (t.peripheral 0).sent)

theorem test_lnkWrite_accepted :
    seen (fun t => (t.result.fg, txView t)) (exec (.lnkWrite 0) (cursors (asked .fg 0xF001 0) 4 0 2)) =
      some (.flag true, .busy, [.raw 0xA, .raw 0xB], [0xF001]) := by decide

theorem test_lnkWrite_refused_and_queued :
    seen (fun t => (t.result.fg, txView t)) (exec (.lnkWrite 0) { asked .fg 0xF002 0 with hw := [refusing] }) =
      some (.flag true, .busy, [.raw 0xF002], []) := by decide

theorem test_lnkTxEmpty : seen (·.result.fg) (exec (.lnkTxEmpty 0) (cursors st 4 0 2)) = some (.flag false) := by decide

theorem test_lnkTxFull : seen (·.result.fg) (exec (.lnkTxFull 0) (cursors st 4 2 6)) = some (.flag true) := by decide

theorem test_lnkClear :
    seen (fun t => (txView t, t.contents 3)) (exec (.lnkClear 0) { cursors (cursors st 3 0 3) 4 5 6 with txState := [.busy, .busy] }) =
      some ((.idle, [], []), []) := by decide

theorem test_isrTxDone_hands_over :
    seen txView (exec (.isrTxDone 0) (dispatched { cursors st 4 0 2 with txState := [.busy] })) =
      some (.busy, [.raw 0xB], [0xA]) := by decide

theorem test_isrTxDone_empty :
    seen txView (exec (.isrTxDone 0) (dispatched { st with txState := [.busy] })) = some (.idle, [], []) := by decide

/-! ## Refusals (P7, V-ENC) -/

theorem test_refused_reserved_opcode :
    seen (·.refusals) (step { st with script := [.request true .fg 0x0003 0 0] }) = some [.illegalCommand] := by decide

theorem test_refused_role :
    seen (fun t => (t.refusals, t.chans == st.chans)) (step { st with script := [.request true .fg 0x0220 0x55 0] }) =
      some ([.roleViolation], true) := by decide

theorem test_refused_direct_isr :
    seen (·.refusals) (step { st with script := [.request true .irq 0x0040 0 0] }) = some [.directIsrCall] := by decide

theorem test_refused_missing_side :
    seen (·.refusals) (step { st with script := [.request true .fg 0x014D 0 0] }) = some [.illegalCommand] := by decide

/-! ## Witnesses

For each statement of `Obligations.lean` that has hypotheses, a concrete state and operands that meet all of them together; where a
statement has several cases, one for each. -/

/-- An outcome that an observer sees is a next state. -/
theorem next_of_seen {o : Host.Outcome State Fault Refusal} (h : seen (fun _ => ()) o = some ()) : ∃ t, o = .next t := by
  cases o with
  | next t => exact ⟨t, rfl⟩
  | fault f => cases h
  | refused r => cases h

theorem witness_DecodeEncodeRoundTrip : (Instr.isrErrBus 255).wf = true := by decide

theorem witness_EncodeDecodeRoundTrip : decode 0xFF4D = .ok (.isrErrBus 255) := rfl

theorem witness_OpcodeMapRows :
    (0#8).toNat = 0 ∧ (255#8).toNat ≠ 0 ∧ decode (255#8 ++ 0x12#8) = .error .instanceNotZero := ⟨rfl, by decide, rfl⟩

/-- The ends of the six ranges of R98. -/
theorem witness_reservedOpcode :
    ∀ b ∈ [0x03, 0x0F, 0x13, 0x1F, 0x27, 0x2F, 0x37, 0x3F, 0x42, 0x47, 0x4E, 0xFF], reservedOpcode b := by
  unfold reservedOpcode; decide

/-- `st` with one word due on the port of `x`. -/
def due (whole : Bool) (x : Ctx) (w : CmdWord) (a0 a1 : Nat) : State := { st with script := [.request whole x w a0 a1] }

/-- A reserved word, and one whose only fault is the smallest nonzero instance. -/
theorem witness_ReservedWordRefused :
    (decode 0x05FF = .error .reservedOpcode ∧ (due true .fg 0x05FF 1 2).ready .fg = true ∧
      (due true .fg 0x05FF 1 2).script = .request true .fg 0x05FF 1 2 :: []) ∧
    (decode 0x0112 = .error .instanceNotZero ∧ (due false .irq 0x0112 1 2).ready .irq = true ∧
      (due false .irq 0x0112 1 2).script = .request false .irq 0x0112 1 2 :: []) := ⟨⟨rfl, rfl, rfl⟩, rfl, rfl, rfl⟩

theorem witness_ResetSound : Config.sample.wf = true := by decide

theorem witness_StepRunsRequestedWord :
    (due true .fg 0x0120 0xAA 0).ready .fg = true ∧
      (due true .fg 0x0120 0xAA 0).script = .request true .fg 0x0120 0xAA 0 :: [] ∧
      decode 0x0120 = .ok (.chWrite 1) := ⟨rfl, rfl, rfl⟩

theorem witness_StepServesEvent :
    (∃ s : State, s.inflight.irq = none ∧ s.script = .event true 0 .rxReady :: [] ∧ s.cfg.attached 0 .rxReady = true) ∧
      ∃ s : State, s.inflight.irq = none ∧ s.script = .event true 1 .rxReady :: [] ∧ s.cfg.attached 1 .rxReady = false :=
  ⟨⟨{ st with script := [.event true 0 .rxReady] }, rfl, rfl, rfl⟩,
    ⟨{ st with script := [.event true 1 .rxReady] }, rfl, rfl, rfl⟩⟩

theorem witness_EventWordIsHandler : 255 < 256 := by decide

theorem witness_HeldRunEqualsWholeRun : st.ready .fg = true ∧ st.ready .irq = true := ⟨rfl, rfl⟩

/-- `st` with the operation `i` in flight in `x` at step `n` with temporaries `t`. -/
def running (x : Ctx) (i : Instr) (a0 n : Nat) (t : Temps) : State := st.hold x ⟨i, a0, 0, n, t⟩

theorem witness_ForegroundWaitsForInterrupt :
    (running .irq .clkRead 0 1 {}).inflight.irq = some ⟨.clkRead, 0, 0, 1, {}⟩ ∧
      ∃ t, step (running .irq .clkRead 0 1 {}) = .next t := ⟨rfl, next_of_seen rfl⟩

theorem witness_HandlerKeepsForegroundRecord :
    (dispatched st).req.src.ctx = .irq ∧ ∃ t, exec (.isrErrBus 0) (dispatched st) = .next t :=
  ⟨rfl, next_of_seen (by decide)⟩

/-- The three refusals; the first at the smallest ticker number that does not exist. -/
theorem witness_RefusedRequestChangesNothing :
    (Instr.tckCheck 2).legal st.cfg = false ∧
    ((Instr.isrRx 0).legal (asked .irq 0 0).cfg = true ∧ (Instr.isrRx 0).event.isSome = true ∧
      (asked .irq 0 0).req.src ≠ .dispatcher) ∧
    ((Instr.chWrite 2).legal (asked .fg 0 0).cfg = true ∧
      ((Instr.chWrite 2).event.isSome = true → (asked .fg 0 0).req.src = .dispatcher) ∧
      (Instr.chWrite 2).roleAllows (asked .fg 0 0).cfg (asked .fg 0 0).req.src = false) := by decide

/-- A configuration whose channel 0 has both its roles in `FG`. -/
def oneSided : Params := { Config.sample with chans := ⟨4, 8, .fg, .fg⟩ :: Config.sample.chans.tail }

theorem witness_WrongContextRefused :
    (asked .irq 0 0).req.src = .port .irq ∧ (asked .fg 0 0).req.src = .port .fg ∧
    Ctx.irq ≠ st.cfg.clkUpdater ∧ (1 < st.cfg.nTck ∧ Ctx.irq ≠ (st.cfg.tck 1).owner) ∧
    (2 < st.cfg.nCh ∧ st.cfg.kind 2 = .standAlone ∧ Ctx.fg ≠ st.cfg.prod 2 ∧ Ctx.irq ≠ st.cfg.cons 2) ∧
    (0 < oneSided.nCh ∧ oneSided.kind 0 = .standAlone ∧ Ctx.irq ≠ oneSided.prod 0 ∧ Ctx.irq ≠ oneSided.cons 0) ∧
    (5 < st.cfg.nCh ∧ st.cfg.kind 5 ≠ .standAlone ∧ st.cfg.kind 3 ≠ .standAlone) ∧
    (0 < st.cfg.nLnk ∧ st.cfg.hasRx 0 = true ∧ st.cfg.hasTx 0 = true) := by decide

/-- A CH.CLEAR of channel 1 in flight, about to take its first step, and a request of `IRQ` presented. -/
def clearing1 : State := { running .fg (.chClear 1) 0 1 {} with req := ⟨.port .irq, 0, 0⟩ }

theorem witness_OnlyTheseFaults :
    exec (.chRead 1) (cursors (asked .irq 0 0) 1 4 4) = .fault (.readEmpty 1) ∧
      exec (.chRead 1) clearing1 = .fault (.clearBusy 1) := ⟨rfl, rfl⟩

theorem witness_ClearBusyRaised :
    (Instr.chRead 1).legal clearing1.cfg = true ∧ (Instr.chRead 1).roleAllows clearing1.cfg clearing1.req.src = true ∧
      clearing1.req.src.ctx = .irq ∧ (Instr.chRead 1).uses clearing1.cfg = [1] ∧ 1 ∈ clearing1.clearing := by decide

theorem witness_ClkUpdateEffect : st.req.src = .port st.cfg.clkUpdater := rfl

theorem witness_ClkReadEffect : (asked .irq 0 0).req.src = .port .irq := rfl

theorem witness_ClkReadMsEffect : (asked .fg 0 0).req.src = .port .fg := rfl

/-- The longest interval R300 allows, and across a wrap. -/
theorem witness_ReadReturnsTrueTime :
    ∃ s : State, s.req.src = .port .fg ∧ s.clockAt 5 ∧ 5 ≤ s.tau ∧ s.tau - 5 < 2 ^ 32 ∧ s.tau = 2 ^ 32 + 4 :=
  ⟨{ st with slot0 := ⟨0, 5⟩, tau := 2 ^ 32 + 4 }, rfl, by unfold State.clockAt; decide, by decide, by decide, rfl⟩

/-- The shortest interval beyond it. -/
theorem witness_LateReadTooSmall :
    ∃ s : State, s.req.src = .port .fg ∧ s.clockAt 5 ∧ 5 + 2 ^ 32 ≤ s.tau ∧ s.tau < 2 ^ 64 ∧ s.tau = 2 ^ 32 + 5 :=
  ⟨{ st with slot0 := ⟨0, 5⟩, tau := 2 ^ 32 + 5 }, rfl, by unfold State.clockAt; decide, by decide, by decide, rfl⟩

/-- The samples of P2. -/
theorem witness_ReadingsNeverDecrease :
    st.clockAt 0 ∧ 0 ≤ st.tau ∧
      clockSpaced 0 st.tau
        [(0x80000000, none), (0x7FFFFFF0, some .fg), (0x20, some .irq), (0x10, none), (0x10, some .fg)] :=
  ⟨by unfold State.clockAt; decide, by decide, by simp only [clockSpaced]; decide⟩

/-- The start of P6 (a). -/
def overtaken : State :=
  { st with
    cfg := { Config.sample with clkUpdater := .irq }
    slot0 := ⟨0, 100⟩
    tau := 200
    script := [.request false .fg (encode .clkRead) 0 0, .advance, .elapse 1, .request true .irq (encode .clkUpdate) 0 0] }

theorem witness_OvertakenReadTooLarge :
    overtaken.inflight = ⟨none, none⟩ ∧ overtaken.cfg.clkUpdater = .irq ∧
      (100 : Micros).toNat ≤ overtaken.tau % 2 ^ 32 ∧ 0 < 1 ∧ overtaken.tau % 2 ^ 32 + 1 < 2 ^ 32 ∧
      (0 : Epoch).toNat + 1 < 2 ^ 32 ∧ overtaken.idx = 0 ∧ overtaken.slot0 = ⟨0, 100⟩ ∧
      overtaken.script = [.request false .fg (encode .clkRead) 0 0, .advance, .elapse 1,
        .request true .irq (encode .clkUpdate) 0 0] := by
  refine ⟨rfl, rfl, ?_, ?_, ?_, ?_, rfl, rfl, rfl⟩ <;> decide

theorem witness_TimePastEffect :
    (asked .irq 5 0xFFFFFFF0).req.src = .port .irq ∧ 5 < 2 ^ 32 ∧ 0xFFFFFFFF < 2 ^ 32 ∧
      ∃ s : State, s.inflight.get .fg = some ⟨.timePast, 5, 0xFFFFFFFF, 1, {}⟩ ∧ s.inflight.irq = none :=
  ⟨rfl, by decide, by decide, { st with inflight := ⟨some ⟨.timePast, 5, 0xFFFFFFFF, 1, {}⟩, none⟩ }, rfl, rfl⟩

/-- Values where the cases of R141 meet: the largest threshold, and times one apart in either order. -/
theorem witness_TimePastByDistance :
    2 ^ 31 ≤ 2 ^ 31 ∧ (0 : Micros) < 1 ∧ (1 : Micros) < 0xFFFFFFFF ∧ ¬ (7 : Micros) < 7 := by decide

theorem witness_TckCheckEffect : 1 < st.cfg.nTck ∧ st.req.src = .port (st.cfg.tck 1).owner := ⟨by decide, rfl⟩

theorem witness_TckResetEffect : 1 < st.cfg.nTck ∧ st.req.src = .port (st.cfg.tck 1).owner := ⟨by decide, rfl⟩

theorem witness_TickerNeverDrifts :
    1 < st.cfg.nTck ∧ 1 < st.expiry.length ∧ st.req.src = .port (st.cfg.tck 1).owner ∧
      ∃ s0, exec (.tckReset 1) st = .next s0 := ⟨by decide, by decide, rfl, next_of_seen (by decide)⟩

/-- A ticker 1 with period `p`. -/
def ticking (p : Micros) : State := { st with cfg := { Config.sample with tcks := [⟨1000, .fg⟩, ⟨p, .fg⟩] } }

/-- Both cases: a period one above `T_HALF`, and period 0. -/
theorem witness_PeriodOutsideRange :
    (1 < (ticking 0x40000001).cfg.nTck ∧ 1 < (ticking 0x40000001).expiry.length ∧
      (ticking 0x40000001).req.src = .port ((ticking 0x40000001).cfg.tck 1).owner ∧
      (ticking 0x40000001).tau % 2 ^ 32 + ((ticking 0x40000001).cfg.tck 1).period.toNat < 2 ^ 32 ∧
      ∃ s0, exec (.tckReset 1) (ticking 0x40000001) = .next s0) ∧
    (1 < (ticking 0).cfg.nTck ∧ 1 < (ticking 0).expiry.length ∧
      (ticking 0).req.src = .port ((ticking 0).cfg.tck 1).owner ∧ ((ticking 0).cfg.tck 1).period = 0) :=
  ⟨⟨by decide, by decide, rfl, by decide, next_of_seen (by decide)⟩, by decide, by decide, rfl, rfl⟩

/-- A producer in `FG` (channel 1) and one in `IRQ` (channel 2), each with room and full. -/
theorem witness_ChWriteEffect :
    1 < st.cfg.nCh ∧ st.cfg.kind 1 = .standAlone ∧ (asked .fg 0x1FF 0).req.src = .port (st.cfg.prod 1) ∧
    2 < st.cfg.nCh ∧ st.cfg.kind 2 = .standAlone ∧ (asked .irq 0x1FF 0).req.src = .port (st.cfg.prod 2) ∧
    2 ∉ st.clearing ∧ st.occupancy 2 ≠ st.cfg.cap 2 ∧ (cursors st 1 0 4).occupancy 1 = (cursors st 1 0 4).cfg.cap 1 := by
  decide

/-- The consumer of channel 1, `IRQ`, and of channel 2, `FG`; empty and not. -/
theorem witness_ChReadEffect :
    1 < st.cfg.nCh ∧ st.cfg.kind 1 = .standAlone ∧ (asked .irq 0 0).req.src = .port (st.cfg.cons 1) ∧ 1 ∉ st.clearing ∧
    2 < st.cfg.nCh ∧ st.cfg.kind 2 = .standAlone ∧ (asked .fg 0 0).req.src = .port (st.cfg.cons 2) ∧
    st.tail 1 = st.head 1 ∧ (cursors st 1 7 0).tail 1 ≠ (cursors st 1 7 0).head 1 := by decide

theorem witness_ChPeekEffect :
    1 < st.cfg.nCh ∧ st.cfg.kind 1 = .standAlone ∧ (asked .irq 0 0).req.src = .port (st.cfg.cons 1) ∧ 1 ∉ st.clearing ∧
    st.tail 1 = st.head 1 ∧ (cursors st 1 7 0).tail 1 ≠ (cursors st 1 7 0).head 1 := by decide

theorem witness_ChDiscardEffect :
    1 < st.cfg.nCh ∧ st.cfg.kind 1 = .standAlone ∧ (asked .irq 0 0).req.src = .port (st.cfg.cons 1) ∧ 1 ∉ st.clearing ∧
    st.tail 1 = st.head 1 ∧ (cursors st 1 7 0).tail 1 ≠ (cursors st 1 7 0).head 1 := by decide

theorem witness_ChClearEffect :
    1 < st.cfg.nCh ∧ st.cfg.kind 1 = .standAlone ∧ (asked .fg 0 0).req.src = .port .fg := by decide

theorem witness_ChFullEmptyEffect :
    1 < st.cfg.nCh ∧ st.cfg.kind 1 = .standAlone ∧ (asked .irq 0 0).req.src = .port .irq ∧
      (Ctx.irq = st.cfg.prod 1 ∨ Ctx.irq = st.cfg.cons 1) ∧ (Ctx.irq = .irq → 1 ∉ st.clearing) := by decide

/-- Channel 1 of `st` with cursors `h`, `t`, which R38 allows, is sound. -/
theorem sound1 (s : State) (hc : s.chans.length = 6) (hcfg : s.cfg = Config.sample) (hs : (s.chan 1).store.length = 4)
    (hh : s.head 1 < 8) (ht : s.tail 1 < 8) (ho : s.occupancy 1 ≤ 4) : s.channelSound 1 := by
  unfold State.channelSound State.channelOk State.cursorsIn curMod
  rw [hc, hcfg, hs]
  exact ⟨by decide, by decide, by decide, ⟨hh, ht⟩, ho⟩

/-- Every case: a write with room and one to a full channel by the producer, and the consumer's operations and the clear. -/
theorem witness_ChannelFifoLaw :
    ((cursors (asked .fg 1 0) 1 0 4).channelSound 1 ∧ (cursors (asked .fg 1 0) 1 0 4).mayStart (.chWrite 1) ∧
      (cursors (asked .fg 1 0) 1 0 4).mayStart (.chClear 1) ∧
      ((cursors (asked .fg 1 0) 1 0 4).contents 1).length = (cursors (asked .fg 1 0) 1 0 4).cfg.cap 1) ∧
    ((asked .fg 1 0).channelSound 1 ∧ (asked .fg 1 0).mayStart (.chWrite 1) ∧
      ((asked .fg 1 0).contents 1).length ≠ (asked .fg 1 0).cfg.cap 1) ∧
    ((cursors (asked .irq 0 0) 1 7 0).channelSound 1 ∧
      (cursors (asked .irq 0 0) 1 7 0).contents 1 = .raw 0xDD :: [] ∧
      (cursors (asked .irq 0 0) 1 7 0).mayStart (.chRead 1) ∧ (cursors (asked .irq 0 0) 1 7 0).mayStart (.chPeek 1) ∧
      (cursors (asked .irq 0 0) 1 7 0).mayStart (.chDiscard 1)) := by
  unfold State.mayStart
  exact ⟨⟨sound1 _ rfl rfl rfl (by decide) (by decide) (by decide), by decide, by decide, by decide⟩,
    ⟨sound1 _ rfl rfl rfl (by decide) (by decide) (by decide), by decide, by decide⟩,
    sound1 _ rfl rfl rfl (by decide) (by decide) (by decide), by decide, by decide, by decide, by decide⟩

theorem witness_LnkReadEffect :
    0 < st.cfg.nLnk ∧ st.cfg.hasRx 0 = true ∧ st.req.src = .port .fg ∧
      st.tail (st.cfg.rx 0) = st.head (st.cfg.rx 0) ∧ (cursors st 3 0 1).tail 3 ≠ (cursors st 3 0 1).head 3 := by decide

theorem witness_LinkFlagsEffect :
    0 < st.cfg.nLnk ∧ st.req.src = .port .fg ∧ st.cfg.hasRx 0 = true ∧ st.cfg.hasTx 0 = true := by decide

/-- `st` with a burst of six frames pending on link 0 and one element in its receive channel, whose capacity is 4. -/
def burst : State := dispatched { cursors st 3 7 0 with hw := [⟨[1, 2, 3, 4, 5, 6], true, false, []⟩] }

/-- More frames pending than there is room for, under both policies, the store wrapping round; and none pending. -/
theorem witness_IsrRxDrainsBurst :
    (0 < burst.cfg.nLnk ∧ 0 < burst.hw.length ∧ burst.cfg.hasRx 0 = true ∧ burst.req.src = .dispatcher ∧
      burst.cfg.rx 0 ∉ burst.clearing ∧ burst.channelSound 3 ∧ burst.cfg.cap 3 - burst.occupancy 3 = 3 ∧
      (burst.peripheral 0).rxq.length = 6 ∧ burst.cfg.rxResidue = .discard) ∧
    (({ burst with cfg := { Config.sample with rxResidue := .retain } } : State).channelSound 3 ∧
      (dispatched st).channelSound 3 ∧ ((dispatched st).peripheral 0).rxq = []) := by
  unfold State.channelSound State.channelOk State.cursorsIn
  decide

theorem witness_IsrRxCompletes :
    0 < st.cfg.nLnk ∧ st.cfg.hasRx 0 = true ∧ (dispatched st).req.src = .dispatcher ∧
      st.cfg.rx 0 ∉ (dispatched st).clearing := by decide

theorem witness_IsrErrEffect :
    0 < st.cfg.nLnk ∧ st.cfg.hasRx 0 = true ∧ st.cfg.timestamp 0 = true ∧ (dispatched st).req.src = .dispatcher ∧
      st.cfg.rx 0 ∉ (dispatched st).clearing := by decide

/-- The cases: Idle and accepted; refused or Busy, with no room and with room. -/
theorem witness_LnkWriteEffect :
    0 < st.cfg.nLnk ∧ st.cfg.hasTx 0 = true ∧ st.req.src = .port .fg ∧ st.tx 0 = .idle ∧
      (st.hw.getD 0 ⟨[], true, false, []⟩).accepts = true ∧ st.occupancy 4 ≠ st.cfg.cap 4 ∧
      (cursors st 4 0 4).occupancy 4 = st.cfg.cap 4 ∧ ({ st with txState := [.busy, .idle] } : State).tx 0 = .busy ∧
      (({ st with hw := [refusing] } : State).hw.getD 0 ⟨[], true, false, []⟩).accepts = false := by decide

theorem witness_IsrTxDoneEffect :
    0 < st.cfg.nLnk ∧ st.cfg.hasTx 0 = true ∧ (dispatched st).req.src = .dispatcher ∧
      st.cfg.tx 0 ∉ (dispatched st).clearing ∧ st.tail 4 = st.head 4 ∧
      (cursors st 4 0 1).tail 4 ≠ (cursors st 4 0 1).head 4 ∧ (st.hw.getD 0 ⟨[], true, false, []⟩).accepts = true ∧
      (({ st with hw := [refusing] } : State).hw.getD 0 ⟨[], true, false, []⟩).accepts = false := by decide

theorem witness_LnkClearEffect : 1 < st.cfg.nLnk ∧ st.req.src = .port .fg := by decide

/-- The start of P6 (b). -/
def stranding : State :=
  { st with
    txState := [.busy, .idle]
    script := [.request false .fg (encode (.lnkWrite 0)) 0xF003 0, .advance, .event true 0 .txComplete] }

theorem witness_StrandedFrame :
    stranding.inflight = ⟨none, none⟩ ∧ 0 < 256 ∧ 0 < stranding.cfg.nLnk ∧ 0 < stranding.txState.length ∧
      stranding.cfg.hasTx 0 = true ∧ stranding.cfg.txMode 0 = .buffered ∧ stranding.channelSound (stranding.cfg.tx 0) ∧
      stranding.tx 0 = .busy ∧ stranding.contents (stranding.cfg.tx 0) = [] ∧
      stranding.script = [.request false .fg (encode (.lnkWrite 0)) 0xF003 0, .advance, .event true 0 .txComplete] := by
  refine ⟨rfl, by decide, by decide, by decide, rfl, rfl, ?_, rfl, rfl, rfl⟩
  unfold State.channelSound State.channelOk State.cursorsIn
  decide

/-- The start of P6 (c). -/
def sticking : State :=
  { st with
    script := [.request false .fg (encode (.lnkWrite 0)) 0xF004 0, .advance, .advance, .event true 0 .txComplete] }

theorem witness_StuckBusy :
    sticking.inflight = ⟨none, none⟩ ∧ 0 < 256 ∧ 0 < sticking.cfg.nLnk ∧ 0 < sticking.txState.length ∧
      0 < sticking.hw.length ∧ sticking.cfg.hasTx 0 = true ∧ sticking.cfg.txMode 0 = .buffered ∧
      sticking.channelSound (sticking.cfg.tx 0) ∧ sticking.tx 0 = .idle ∧
      sticking.contents (sticking.cfg.tx 0) = [] ∧ (sticking.peripheral 0).accepts = true ∧
      sticking.script = [.request false .fg (encode (.lnkWrite 0)) 0xF004 0, .advance, .advance,
        .event true 0 .txComplete] := by
  refine ⟨rfl, by decide, by decide, by decide, by decide, rfl, rfl, ?_, rfl, rfl, rfl, rfl⟩
  unfold State.channelSound State.channelOk State.cursorsIn
  decide

/-! ## Sound states with an operation of the foreground in flight -/

/-- `st` with the record `r` in flight in `FG` and the given clock. -/
def inFg (r : InFlight) (slot0 slot1 : Slot) (tau : Nat) : State :=
  { st with slot0 := slot0, slot1 := slot1, tau := tau, inflight := ⟨some r, none⟩ }

/-- Such a state is sound if its record is. -/
theorem inFg_sound {r : InFlight} {a b : Slot} {tau : Nat} (h : (inFg r a b tau).inFlightOk .fg r) :
    (inFg r a b tau).Sound where
  params := (by decide : Config.sample.wf = true)
  shape := (by unfold State.shaped; decide : st.shaped)
  cursors := (by unfold State.cursorsIn; decide : ∀ c < st.cfg.nCh, st.cursorsIn c)
  occupied c hc _ := (by decide : ∀ c < st.cfg.nCh, st.occupancy c ≤ st.cfg.cap c) c hc
  flight := by
    rintro (_ | _) r' h'
    · cases h'; exact h
    · cases h'
  quiet := by rintro r h; cases h

/-- CH.WRITE of channel 1 about to store its element (step W4). -/
def midWrite : State := inFg ⟨.chWrite 1, 0x11, 0, 4, {}⟩ ⟨0, 0⟩ ⟨0, 0⟩ 0

theorem midWrite_sound : midWrite.Sound := inFg_sound (by
  unfold State.inFlightOk; simp only [State.tempsOk]; unfold State.writerOk; decide)

theorem midWrite_typed : midWrite.Typed where
  store := by decide
  pending := by
    intro k f hf
    have h : (midWrite.peripheral k).rxq = [] := by
      rcases k with _ | _ | k <;> rfl
    rw [h] at hf; cases hf
  cargo := by
    rintro (_ | _) r h
    · cases h; simp only [State.cargoTyped]; decide
    · cases h

theorem witness_MicroStepIsFifo :
    midWrite.Sound ∧ 1 < midWrite.cfg.nCh ∧ 1 ∉ midWrite.clearing ∧ ∃ t, midWrite.advance = .next t :=
  ⟨midWrite_sound, by decide, by decide, next_of_seen rfl⟩

theorem witness_StepKeepsSound : midWrite.Sound ∧ ∃ t, step midWrite = .next t := ⟨midWrite_sound, next_of_seen rfl⟩

theorem witness_StepKeepsTyped : midWrite.Sound ∧ midWrite.Typed ∧ ∃ t, step midWrite = .next t :=
  ⟨midWrite_sound, midWrite_typed, next_of_seen rfl⟩

/-- A CLK.UPDATE about to take its first step, U1. -/
def sampling : State := inFg ⟨.clkUpdate, 0, 0, 1, {}⟩ ⟨7, 9⟩ ⟨0, 0⟩ (2 ^ 32 + 3)

/-- A CLK.UPDATE about to take its last step, U7: it has seen the wrap and written the other slot. -/
def publishing : State :=
  inFg ⟨.clkUpdate, 0, 0, 7, { sample := 3, cur := 0, epoch := 7, last := 9 }⟩ ⟨7, 9⟩ ⟨8, 3⟩ (2 ^ 32 + 4)

theorem sampling_sound : sampling.Sound := inFg_sound (by
  unfold State.inFlightOk; simp only [State.tempsOk]; unfold State.updaterOk; decide)

theorem publishing_sound : publishing.Sound := inFg_sound (by
  unfold State.inFlightOk; simp only [State.tempsOk]; unfold State.updaterOk; decide)

/-- A whole update at the end of the longest interval, across a wrap; and one about to publish, and one about to sample. -/
theorem witness_UpdateKeepsClockTrue :
    (∃ s : State, s.req.src = .port s.cfg.clkUpdater ∧ s.clockAt 5 ∧ 5 ≤ s.tau ∧ s.tau - 5 < 2 ^ 32) ∧
      (publishing.Sound ∧ ∃ t, publishing.advance = .next t) ∧
      (sampling.Sound ∧ ∃ t r', sampling.advance = .next t ∧
        sampling.inflight.get .fg = some ⟨.clkUpdate, 0, 0, 1, {}⟩ ∧ t.inflight.get .fg = some r') :=
  ⟨⟨{ st with slot0 := ⟨0, 5⟩, tau := 2 ^ 32 + 4 }, rfl, by unfold State.clockAt; decide, by decide, by decide⟩,
    ⟨publishing_sound, next_of_seen rfl⟩, sampling_sound, _, _, rfl, rfl, rfl⟩

/-- R120, step U7: the other slot is published as it stands. -/
theorem test_clkUpdate_publishes :
    seen (fun t => (t.idx, t.slot0, t.slot1)) publishing.advance = some (1, ⟨7, 9⟩, ⟨8, 3⟩) := by decide

theorem st_sound : st.Sound where
  params := by decide
  shape := by unfold State.shaped; decide
  cursors := by unfold State.cursorsIn; decide
  occupied := by decide
  flight := by rintro (_ | _) r h <;> cases h
  quiet := by rintro r h; cases h

theorem witness_UninterruptedLinkStaysBusy :
    st.Sound ∧ st.inflight = ⟨none, none⟩ ∧ st.waitingIsBusy ∧ ∃ t, exec (.lnkWrite 0) st = .next t := by
  refine ⟨st_sound, rfl, ?_, next_of_seen (by decide)⟩
  unfold State.waitingIsBusy
  decide

/-- `st` with link 0 of the `fire_and_forget` variant and a LNK.WRITE due. -/
def forgetting : State :=
  { due true .fg 0x0031 0xF001 0 with
    cfg := { Config.sample with links := [⟨true, true, true, .fireAndForget, 3, 4⟩] } }

theorem witness_StepKeepsFireAndForgetIdle :
    forgetting.fireAndForgetIdle ∧ forgetting.cfg.txMode 0 = .fireAndForget ∧ ∃ t, step forgetting = .next t := by
  refine ⟨?_, rfl, next_of_seen (by decide)⟩
  intro k _
  rcases k with _ | _ | k <;> rfl

theorem witness_StepKeepsParameters : ∃ t, step midWrite = .next t := next_of_seen rfl

theorem witness_TimeNeverRunsBack : ∃ t, step { st with script := [.elapse 5] } = .next t := next_of_seen rfl

theorem witness_EnvironmentMovesEffect :
    ∃ s : State, s.script = .arrive 0 0xA001 :: [] := ⟨{ st with script := [.arrive 0 0xA001] }, rfl⟩

theorem witness_RegisterWriters : ∃ t, exec (.lnkWrite 0) st = .next t := next_of_seen (by decide)

theorem witness_OperationsAreLocal : ∃ t, exec (.lnkClear 0) st = .next t := next_of_seen (by decide)

end Sys2Proof.Tests
end

