-- ==== Sys2Proof/Proofs/Encoding.lean ====
section
/-!
PROOFS. Which command words decode to no operation and what the machine answers to a request with one (30_encoding.md rules
R98 and R99), and the whole CLK.READ with the bits it presents (R97, 40_clock.md rule R121).
-/

namespace Sys2Proof

/-! ## The words that are no operation -/

/-- The opcodes of the operations of which there is one, whose `inst` field must be 0 (R90). -/
abbrev singleOpcodes : List Nat := [0x00, 0x01, 0x02, 0x12]

theorem decodeSingle_error_iff {inst : Nat} {i : Instr} {e : DecodeError} :
    decodeSingle inst i = .error e ↔ inst ≠ 0 ∧ e = .instanceNotZero := by
  unfold decodeSingle
  split <;> simp_all [eq_comm]

/-- What the opcode map answers for a byte: one operation whatever the `inst` field, an operation of which there is one, or
nothing because the byte is reserved. The three exclude each other. -/
theorem decodeFields_cases {op : Nat} (inst : Nat) (hop : op < 256) :
    (¬ reservedOpcode op ∧ op ∉ singleOpcodes ∧ ∃ i, decodeFields op inst = .ok i) ∨
    (¬ reservedOpcode op ∧ op ∈ singleOpcodes ∧ ∃ i, decodeFields op inst = decodeSingle inst i) ∨
    (reservedOpcode op ∧ op ∉ singleOpcodes ∧ decodeFields op inst = .error .reservedOpcode) := by
  unfold decodeFields
  split
  case h_29 =>
    refine .inr (.inr ⟨?reserved, ?single, rfl⟩) <;> simp only [imp_false] at *
    case reserved => unfold reservedOpcode; omega
    case single => simp only [List.mem_cons, List.not_mem_nil, or_false]; omega
  case h_1 | h_2 | h_3 | h_6 => exact .inr (.inl ⟨by unfold reservedOpcode; omega, by simp, _, rfl⟩)
  all_goals exact .inl ⟨by unfold reservedOpcode; omega, by simp, _, rfl⟩

theorem decodeFields_reserved_iff {op inst : Nat} (hop : op < 256) :
    decodeFields op inst = .error .reservedOpcode ↔ reservedOpcode op := by
  obtain ⟨hres, -, i, h⟩ | ⟨hres, -, i, h⟩ | ⟨hres, -, h⟩ := decodeFields_cases inst hop <;>
    simp [h, hres, decodeSingle_error_iff]

theorem decodeFields_instanceNotZero_iff {op inst : Nat} (hop : op < 256) :
    decodeFields op inst = .error .instanceNotZero ↔ op ∈ singleOpcodes ∧ inst ≠ 0 := by
  obtain ⟨-, hsingle, i, h⟩ | ⟨-, hsingle, i, h⟩ | ⟨-, hsingle, h⟩ := decodeFields_cases inst hop
  · simp only [h, hsingle, reduceCtorEq, false_and]
  · simp only [h, hsingle, decodeSingle_error_iff, and_true, true_and]
  · simp only [h, hsingle, Except.error.injEq, reduceCtorEq, false_and]

end Sys2Proof

namespace Sys2Proof.Machine

/-- A step at a request whose context is ready hands the word to the decoder (R90). -/
theorem step_request {s : State} {whole : Bool} {x : Ctx} {w : CmdWord} {a0 a1 : Nat} {rest : List Move}
    (hready : s.ready x = true) (hs : s.script = .request whole x w a0 a1 :: rest) :
    step s = State.command { s with script := rest } whole ⟨.port x, a0, a1⟩ w := by
  simp [step, hs, State.move, hready]

/-- A word that is no operation, for whichever reason, is refused as `IllegalCommand` (R98, R99). -/
theorem State.command_of_decode_error {s : State} {whole : Bool} {req : Request} {w : CmdWord} {e : DecodeError}
    (h : decode w = .error e) : s.command whole req w = .next ({ s with req := req }.refuse .illegalCommand) := by
  unfold State.command; rw [h]

/-- Settles O4: the opcode map read through the fields of the word, and the refusal of what does not decode. -/
theorem reservedWordRefused : Obligations.ReservedWordRefused := by
  refine ⟨fun w => ?_, fun w => ?_, fun s whole x w a0 a1 rest e hw hready hs => ?_⟩
  · rw [← opcodeField_eq]
    exact decodeFields_reserved_iff (opcodeField_lt w)
  · rw [← opcodeField_eq, ← instField_eq]
    exact decodeFields_instanceNotZero_iff (opcodeField_lt w)
  · rw [step_request hready hs, State.command_of_decode_error hw]
    rfl

/-! ## The reading of the clock -/

/-- The temporaries of a clock reading after its four loads K1 to K4 (R121), with nothing between them. -/
def State.clkLoads (s : State) (t : Temps) : Temps :=
  { t with sample := s.hwCounter, cur := s.idx, epoch := (s.slot s.idx).epoch, last := (s.slot s.idx).last }

/-- The 64-bit reading of the clock in state `s` (R97, R121). -/
def State.reading (s : State) : Clock :=
  clockValue (rollover (s.slot s.idx).epoch (s.slot s.idx).last s.hwCounter) s.hwCounter

/-- Step K5 after the loads returns the reading and changes no register. -/
theorem clkReadSub_loaded (s s' : State) (t : Temps) :
    clkReadSub 5 (s.clkLoads t) s' = .ret { s.clkLoads t with reading := s.reading } s' := rfl

/-- Steps K1 to K4 of a clock reading that an operation calls in place after `b` steps of its own (R9, R121): whatever follows
the return, they load the temporaries and move on to K5. -/
theorem State.runMicro_clkLoads {f : InFlight → State → Micro} {k : InFlight → Temps → State → Micro} {r : InFlight}
    {b : Nat} (calls : ∀ j t s, 1 ≤ j → j ≤ 4 →
      f (r.at (j + b) t) s = (clkReadSub j t s).andThen (r.at (j + b) t) (k (r.at (j + b) t)))
    (x : Ctx) (n : Nat) (s : State) (t : Temps) :
    State.runMicro f x (n + 4) (s.hold x (r.at (1 + b) t)) =
      State.runMicro f x n (s.hold x (r.at (5 + b) (s.clkLoads t))) := by
  have load {j m : Nat} {t t' : Temps} (h1 : 1 ≤ j) (h4 : j ≤ 4)
      (hk : clkReadSub j t (s.hold x (r.at (j + b) t)) = .more t' (s.hold x (r.at (j + b) t))) :
      State.runMicro f x (m + 1) (s.hold x (r.at (j + b) t)) =
        State.runMicro f x m (s.hold x (r.at (j + 1 + b) t')) := by
    rw [State.runMicro_hold, calls j t _ h1 h4, hk, Nat.add_right_comm j 1 b]
    simp [Sub.andThen, InFlight.at]
  rw [load (by omega) (by omega) rfl, load (by omega) (by omega) rfl, load (by omega) (by omega) rfl,
    load (by omega) (by omega) rfl]
  rfl

/-- The micro-steps of a whole CLK.READ leave the reading on the port (R121). -/
theorem State.runMicro_clkRead (s : State) (x : Ctx) (i : Instr) (a0 a1 : Nat) (t : Temps) :
    State.runMicro microClkRead x 5 (s.hold x ⟨i, a0, a1, 1, t⟩) = .next (s.leave x (.clock s.reading)) := by
  let r : InFlight := ⟨i, a0, a1, 1, t⟩
  have k5 (s' : State) : microClkRead (r.at 5 (s.clkLoads t)) s' = .done (.clock s.reading) s' := by
    simp [microClkRead, clkReadSub_loaded, Sub.andThen]
  calc
    _ = State.runMicro microClkRead x 1 (s.hold x (r.at 5 (s.clkLoads t))) :=
      State.runMicro_clkLoads (k := fun _ t s => .done (.clock t.reading) s) (b := 0) (fun _ _ _ _ _ => rfl) x 1 s t
    _ = _ := by rw [State.runMicro_hold, k5]; simp

/-- The reading as a number, over the registers (R97, R121). -/
theorem State.reading_toNat (s : State) :
    s.reading.toNat =
      (if s.hwCounter < (s.slot s.idx).last then (s.slot s.idx).epoch + 1 else (s.slot s.idx).epoch).toNat * 2 ^ 32 +
        s.hwCounter.toNat :=
  clockValue_toNat _ _

/-- What the result port shows while an operation runs does not outlast its return. -/
theorem State.leave_of_result_set (s : State) (x : Ctx) (shown res : Result) :
    State.leave { s with result := s.result.set x shown } x res = s.leave x res := by
  simp only [State.leave, PerCtx.set_set]

/-- A whole CLK.READ on either port ends with the reading on that port. -/
theorem exec_clkRead {s : State} {x : Ctx} (hx : s.req.src = .port x) :
    exec .clkRead s = .next (s.leave x (.clock s.reading)) := by
  have hacc : s.verdict .clkRead = .accepted := State.verdict_port hx rfl rfl (by simp [Instr.uses])
  rw [exec_accepted hacc (x := x) (by rw [hx]; rfl), wholeSteps, microOf, State.runMicro_clkRead,
    State.leave_of_result_set]
  rfl

/-- Settles O20: the value on the port is the reading's, and returning changes no register. -/
theorem clkReadEffect : Obligations.ClkReadEffect := by
  intro s x hx sample cur e2
  rw [exec_clkRead hx, State.leave, Result.clock, State.reading_toNat]
  rfl

end Sys2Proof.Machine
end

namespace Sys2Proof.Machine

/-! ## TIMEPAST -/

/-- The context with the processor takes its next micro-step: `IRQ` always, `FG` when `IRQ` has nothing in flight (R261, R262). -/
theorem State.advance_running {s : State} {x : Ctx} {r : InFlight} (hr : s.inflight.get x = some r)
    (hirq : x = .fg → s.inflight.irq = none) : s.advance = s.microStep (microOf r.instr) x r := by
  unfold State.advance
  cases x with
  | irq => rw [show s.inflight.irq = some r from hr]
  | fg => rw [hirq rfl, show s.inflight.fg = some r from hr]

/-- The model's predicate on words is that of R140 on the numbers they hold. -/
theorem timePast_ofNat {tHalf cur ref : Nat} (hcur : cur < 2 ^ 32) (href : ref < 2 ^ 32) :
    timePast tHalf (BitVec.ofNat 32 cur) (BitVec.ofNat 32 ref) = decide (Past tHalf cur ref) := by
  rw [Bool.eq_iff_iff, timePast_iff, decide_eq_true_iff, BitVec.toNat_ofNat, BitVec.toNat_ofNat,
    Nat.mod_eq_of_lt hcur, Nat.mod_eq_of_lt href]

/-- At whichever step it stands, TIMEPAST's micro-step is its last: it returns the predicate of the operands in its record and
changes no register (R140). -/
theorem microTimePast_done {r : InFlight} (s : State) (hcur : r.arg0 < 2 ^ 32) (href : r.arg1 < 2 ^ 32) :
    microTimePast r s = .done (.flag (decide (Past s.cfg.tHalf r.arg0 r.arg1))) s := by
  rw [microTimePast, timePast_ofNat hcur href]

/-- A whole TIMEPAST on either port compares the operands as sampled, the low 32 bits of the ports (R92, R140). -/
theorem exec_timePast {s : State} {x : Ctx} (hx : s.req.src = .port x) :
    exec .timePast s =
      .next (s.leave x (.flag (decide (Past s.cfg.tHalf (s.req.arg0 % 2 ^ 32) (s.req.arg1 % 2 ^ 32))))) := by
  have hacc : s.verdict .timePast = .accepted := State.verdict_port hx rfl rfl (by simp [Instr.uses])
  have sampled (a : Nat) : a % 2 ^ 32 < 2 ^ 32 := Nat.mod_lt a (by decide)
  rw [exec_accepted hacc (x := x) (by rw [hx]; rfl), wholeSteps, microOf, State.runMicro_hold,
    microTimePast_done _ (sampled _) (sampled _)]
  simp only [State.hold_leave, State.leave_of_result_set]
  rfl

/-- Settles O27: run whole, the operands are the sampled ports; held, they are those of the record. -/
theorem timePastEffect : Obligations.TimePastEffect := by
  refine ⟨rfl, rfl, fun s x hx => exec_timePast hx, fun s x cur ref n t hcur href hr hirq => ?_⟩
  rw [State.advance_running hr hirq]
  exact State.microStep_done (microTimePast_done s hcur href)

end Sys2Proof.Machine

namespace Sys2Proof.Machine

/-! ## Nothing reads the transmitting status -/

/-- `s` with `b` as the answer of `HwTxActive(k)` (R273). -/
def State.answering (k : Nat) (b : Bool) (s : State) : State := s.onPeripheral k fun h => { h with txActive := b }

/-- A micro-step with `g` applied to the state it ends in. -/
def Micro.mapState (g : State → State) : Micro → Micro
  | .goto r s => .goto r (g s)
  | .done res s => .done res (g s)
  | .raise f => .raise f

/-- The same for a micro-step of a called operation. -/
def Sub.mapState (g : State → State) : Sub → Sub
  | .more t s => .more t (g s)
  | .ret t s => .ret t (g s)
  | .raise f => .raise f

/-- The same for an outcome. -/
def mapNext (g : State → State) : Host.Outcome State Fault Refusal → Host.Outcome State Fault Refusal
  | .next s => .next (g s)
  | .fault f => .fault f
  | .refused e => .refused e

/-! ### Reads and stores -/

section
variable (k : Nat) (b : Bool) (s : State)

@[simp] theorem State.answering_cfg : (s.answering k b).cfg = s.cfg := rfl
@[simp] theorem State.answering_inflight : (s.answering k b).inflight = s.inflight := rfl

/-- Two updates of peripherals that commute on a single peripheral commute. -/
theorem State.onPeripheral_comm {f g : Peripheral → Peripheral} (hfg : ∀ h, f (g h) = g (f h)) (m : Nat) :
    (s.onPeripheral k f).onPeripheral m g = (s.onPeripheral m g).onPeripheral k f := by
  simp only [State.onPeripheral, State.setPeripheral_peripheral]
  by_cases hm : m = k
  · subst hm
    by_cases hl : m < s.hw.length
    · simp [State.setPeripheral, hl, hfg]
    · simp [State.setPeripheral, hl, List.set_eq_of_length_le (Nat.le_of_not_lt hl)]
  · simp [State.setPeripheral, hm, Ne.symm hm, List.set_comm _ _ hm]

/-- Peripherals differ in the answer of `HwTxActive` at most. -/
theorem State.answering_peripheral (m : Nat) :
    ∃ a, (s.answering k b).peripheral m = { s.peripheral m with txActive := a } := by
  rw [State.answering, State.onPeripheral, State.setPeripheral_peripheral]
  split
  · next h => exact ⟨b, by rw [h.1]⟩
  · exact ⟨_, rfl⟩

@[simp] theorem State.answering_rxq (m : Nat) : ((s.answering k b).peripheral m).rxq = (s.peripheral m).rxq := by
  obtain ⟨a, h⟩ := s.answering_peripheral k b m
  rw [h]

@[simp] theorem State.answering_accepts (m : Nat) :
    ((s.answering k b).peripheral m).accepts = (s.peripheral m).accepts := by
  obtain ⟨a, h⟩ := s.answering_peripheral k b m
  rw [h]

/-- Storing another field of a peripheral commutes with the answer. -/
theorem State.answering_onPeripheral {g : Peripheral → Peripheral}
    (hg : ∀ h : Peripheral, { g h with txActive := b } = g { h with txActive := b }) (m : Nat) :
    (s.answering k b).onPeripheral m g = (s.onPeripheral m g).answering k b :=
  State.onPeripheral_comm k s hg m

theorem State.hwRecv_nil {s : State} {m : Nat} (h : (s.peripheral m).rxq = []) : s.hwRecv m = none := by
  unfold State.hwRecv; rw [h]

theorem State.hwRecv_cons {s : State} {m f : Nat} {rest : List Nat} (h : (s.peripheral m).rxq = f :: rest) :
    s.hwRecv m = some (f, s.onPeripheral m fun p => { p with rxq := rest }) := by
  unfold State.hwRecv; rw [h]; rfl

/-- `HwRecv` looks at the pending frames only (R271). -/
theorem State.answering_hwRecv (m : Nat) :
    (s.answering k b).hwRecv m = (s.hwRecv m).map fun p => (p.1, p.2.answering k b) := by
  have hrxq := State.answering_rxq k b s m
  cases h : (s.peripheral m).rxq with
  | nil => rw [State.hwRecv_nil h, State.hwRecv_nil (hrxq.trans h)]; rfl
  | cons f rest =>
    rw [State.hwRecv_cons h, State.hwRecv_cons (hrxq.trans h), State.answering_onPeripheral k b s fun _ => rfl]
    rfl

theorem State.hwXmit_eq_onPeripheral (m f : Nat) :
    s.hwXmit m f = if (s.peripheral m).accepts then
      (true, s.onPeripheral m fun p => { p with sent := p.sent ++ [f] }) else (false, s) := rfl

/-- `HwXmit` looks at the answer the environment chose for it only (R272). -/
theorem State.answering_hwXmit (m f : Nat) :
    (s.answering k b).hwXmit m f = ((s.hwXmit m f).1, (s.hwXmit m f).2.answering k b) := by
  rw [State.hwXmit_eq_onPeripheral, State.hwXmit_eq_onPeripheral, State.answering_accepts,
    State.answering_onPeripheral k b s fun _ => rfl]
  split <;> rfl

/-- Discarding the residue looks at the parameters only (R195). -/
theorem State.answering_residue (m : Nat) : (s.answering k b).residue m = (s.residue m).answering k b := by
  unfold State.residue
  rw [State.answering_cfg]
  cases s.cfg.rxResidue with
  | discard => exact State.answering_onPeripheral k b s (g := fun p => { p with rxq := [] }) (fun _ => rfl) m
  | retain => rfl

/-! The stores in which the model chooses a slot; every other store commutes with the answer by `rfl`. -/

theorem State.answering_setEpoch (i : BitVec 1) (e : Epoch) :
    (s.answering k b).setEpoch i e = (s.setEpoch i e).answering k b := by
  unfold State.setEpoch; split <;> rfl

theorem State.answering_setLast (i : BitVec 1) (l : Micros) :
    (s.answering k b).setLast i l = (s.setLast i l).answering k b := by
  unfold State.setLast; split <;> rfl

end

/-! ### Micro-steps

The cases `h_1`, `h_2`, … of a split are the arms of the function, that is, the steps of its rule in order. What needs an argument
is a branch that ends in two states, or a store or call that does not commute with the answer by `rfl`. -/

section
variable {k : Nat} {b : Bool}

theorem clkReadSub_answering (j : Nat) (t : Temps) (s : State) :
    clkReadSub j t (s.answering k b) = (clkReadSub j t s).mapState (.answering k b) := by
  unfold clkReadSub; split <;> rfl

theorem chWriteSub_answering (c : Nat) (v : Elem) (j : Nat) (t : Temps) (s : State) :
    chWriteSub c v j t (s.answering k b) = (chWriteSub c v j t s).mapState (.answering k b) := by
  unfold chWriteSub
  split
  case h_3 => rw [apply_ite (Sub.mapState _)]; rfl
  all_goals rfl

theorem chReadSub_answering (c j : Nat) (t : Temps) (s : State) :
    chReadSub c j t (s.answering k b) = (chReadSub c j t s).mapState (.answering k b) := by
  unfold chReadSub
  split
  case h_3 => rw [apply_ite (Sub.mapState _)]; rfl
  all_goals rfl

theorem chPeekSub_answering (c j : Nat) (t : Temps) (s : State) :
    chPeekSub c j t (s.answering k b) = (chPeekSub c j t s).mapState (.answering k b) := by
  unfold chPeekSub
  split
  case h_3 => rw [apply_ite (Sub.mapState _)]; rfl
  all_goals rfl

theorem chDiscardSub_answering (c j : Nat) (t : Temps) (s : State) :
    chDiscardSub c j t (s.answering k b) = (chDiscardSub c j t s).mapState (.answering k b) := by
  unfold chDiscardSub
  split
  case h_3 => rw [apply_ite (Sub.mapState _)]; rfl
  all_goals rfl

theorem chClearSub_answering (c j : Nat) (t : Temps) (s : State) :
    chClearSub c j t (s.answering k b) = (chClearSub c j t s).mapState (.answering k b) := by
  unfold chClearSub; split <;> rfl

theorem cursorsSub_answering (c j : Nat) (t : Temps) (s : State) :
    cursorsSub c j t (s.answering k b) = (cursorsSub c j t s).mapState (.answering k b) := by
  unfold cursorsSub; split <;> rfl

/-- A call commutes with `g` when the called operation does and what follows its return does. -/
theorem Sub.andThen_mapState {g : State → State} {u u' : Sub} {r : InFlight} {f : Temps → State → Micro}
    (hu : u' = u.mapState g) (hf : ∀ t s, f t (g s) = (f t s).mapState g) :
    u'.andThen r f = (u.andThen r f).mapState g := by
  subst hu
  cases u with
  | more t s => rfl
  | ret t s => exact hf t s
  | raise e => rfl

theorem microClkUpdate_answering (r : InFlight) (s : State) :
    microClkUpdate r (s.answering k b) = (microClkUpdate r s).mapState (.answering k b) := by
  unfold microClkUpdate
  dsimp only
  split
  case h_5 => rw [State.answering_setEpoch]; rfl
  case h_6 => rw [State.answering_setLast]; rfl
  all_goals rfl

theorem microTckCheck_answering (n : Nat) (r : InFlight) (s : State) :
    microTckCheck n r (s.answering k b) = (microTckCheck n r s).mapState (.answering k b) := by
  unfold microTckCheck
  split
  · rfl
  · rw [Micro.mapState, apply_ite (State.answering k b)]; rfl
  · exact Sub.andThen_mapState (clkReadSub_answering ..) fun _ _ => rfl

theorem microTckReset_answering (n : Nat) (r : InFlight) (s : State) :
    microTckReset n r (s.answering k b) = (microTckReset n r s).mapState (.answering k b) := by
  unfold microTckReset
  split
  · rfl
  · exact Sub.andThen_mapState (clkReadSub_answering ..) fun _ _ => rfl

theorem microChRead_answering (c : Nat) (r : InFlight) (s : State) :
    microChRead c r (s.answering k b) = (microChRead c r s).mapState (.answering k b) := by
  unfold microChRead
  exact Sub.andThen_mapState (chReadSub_answering ..) fun _ _ => rfl

theorem microChFull_answering (c : Nat) (r : InFlight) (s : State) :
    microChFull c r (s.answering k b) = (microChFull c r s).mapState (.answering k b) := by
  unfold microChFull
  exact Sub.andThen_mapState (cursorsSub_answering ..) fun _ _ => rfl

theorem microChEmpty_answering (c : Nat) (r : InFlight) (s : State) :
    microChEmpty c r (s.answering k b) = (microChEmpty c r s).mapState (.answering k b) := by
  unfold microChEmpty
  exact Sub.andThen_mapState (cursorsSub_answering ..) fun _ _ => rfl

theorem microIsrErr_answering (kind : ErrKind) (m : Nat) (r : InFlight) (s : State) :
    microIsrErr kind m r (s.answering k b) = (microIsrErr kind m r s).mapState (.answering k b) := by
  unfold microIsrErr
  split
  · exact Sub.andThen_mapState (clkReadSub_answering ..) fun _ _ => rfl
  · exact Sub.andThen_mapState (chWriteSub_answering ..) fun _ _ => rfl

theorem microIsrRx_answering (m : Nat) (r : InFlight) (s : State) :
    microIsrRx m r (s.answering k b) = (microIsrRx m r s).mapState (.answering k b) := by
  unfold microIsrRx
  dsimp only
  split
  · rfl
  · rfl
  · rw [State.answering_hwRecv]
    cases s.hwRecv m <;> rfl
  · rw [State.answering_residue]; rfl
  · split
    · rw [State.answering_cfg]
      cases s.cfg.timestamp m with
      | true => exact Sub.andThen_mapState (clkReadSub_answering ..) fun _ _ => rfl
      | false => rfl
    · exact Sub.andThen_mapState (chWriteSub_answering ..) fun _ _ => rfl

theorem microLnkWrite_answering (m : Nat) (r : InFlight) (s : State) :
    microLnkWrite m r (s.answering k b) = (microLnkWrite m r s).mapState (.answering k b) := by
  unfold microLnkWrite
  dsimp only
  split
  case h_1 => rfl
  case h_2 => rw [State.answering_hwXmit]; rfl
  case h_3 => rw [Micro.mapState, apply_ite (State.answering k b)]; rfl
  case h_4 => rfl
  case h_5 => rw [apply_ite (Micro.mapState _)]; rfl
  case h_6 => rw [Micro.mapState, apply_ite (State.answering k b)]; rfl
  case h_7 => exact Sub.andThen_mapState (chWriteSub_answering ..) fun _ _ => rfl

theorem microLnkClear_answering (m : Nat) (r : InFlight) (s : State) :
    microLnkClear m r (s.answering k b) = (microLnkClear m r s).mapState (.answering k b) := by
  unfold microLnkClear
  dsimp only
  split <;> (rw [Micro.mapState, apply_ite (State.answering k b)]; rfl)

theorem microIsrTxDone_answering (m : Nat) (r : InFlight) (s : State) :
    microIsrTxDone m r (s.answering k b) = (microIsrTxDone m r s).mapState (.answering k b) := by
  unfold microIsrTxDone
  dsimp only
  split
  case h_3 => rw [Micro.mapState, apply_ite (State.answering k b)]; rfl
  case h_5 =>
    rw [State.answering_hwXmit, apply_ite (Micro.mapState _)]; rfl
  all_goals rfl

/-- No micro-step of any operation depends on the answer of `HwTxActive(k)`, or changes it. -/
theorem microOf_answering (i : Instr) (r : InFlight) (s : State) :
    microOf i r (s.answering k b) = (microOf i r s).mapState (.answering k b) := by
  cases i with
  | clkUpdate => exact microClkUpdate_answering r s
  | clkRead => exact Sub.andThen_mapState (clkReadSub_answering ..) fun _ _ => rfl
  | clkReadMs => exact Sub.andThen_mapState (clkReadSub_answering ..) fun _ _ => rfl
  | tckCheck t => exact microTckCheck_answering t r s
  | tckReset t => exact microTckReset_answering t r s
  | timePast => rfl
  | chWrite c => exact Sub.andThen_mapState (chWriteSub_answering ..) fun _ _ => rfl
  | chRead c => exact microChRead_answering c r s
  | chPeek c => exact Sub.andThen_mapState (chPeekSub_answering ..) fun _ _ => rfl
  | chDiscard c => exact Sub.andThen_mapState (chDiscardSub_answering ..) fun _ _ => rfl
  | chClear c => exact Sub.andThen_mapState (chClearSub_answering ..) fun _ _ => rfl
  | chFull c => exact microChFull_answering c r s
  | chEmpty c => exact microChEmpty_answering c r s
  | lnkRead m => exact microChRead_answering _ r s
  | lnkWrite m => exact microLnkWrite_answering m r s
  | lnkRxEmpty m => exact microChEmpty_answering _ r s
  | lnkRxFull m => exact microChFull_answering _ r s
  | lnkTxEmpty m => exact microChEmpty_answering _ r s
  | lnkTxFull m => exact microChFull_answering _ r s
  | lnkClear m => exact microLnkClear_answering m r s
  | isrRx m => exact microIsrRx_answering m r s
  | isrTxDone m => exact microIsrTxDone_answering m r s
  | isrErrWarn m => exact microIsrErr_answering .warning m r s
  | isrErrOvf m => exact microIsrErr_answering .dataOverflow m r s
  | isrErrWake m => exact microIsrErr_answering .wakeUp m r s
  | isrErrPassive m => exact microIsrErr_answering .errorPassive m r s
  | isrErrArb m => exact microIsrErr_answering .arbitrationLost m r s
  | isrErrBus m => exact microIsrErr_answering .busError m r s

/-! ### Whole operations -/

theorem State.microStep_answering (i : Instr) (x : Ctx) (r : InFlight) (s : State) :
    (s.answering k b).microStep (microOf i) x r = mapNext (.answering k b) (s.microStep (microOf i) x r) := by
  unfold State.microStep
  rw [microOf_answering]
  cases microOf i r s <;> rfl

theorem State.runMicro_answering (i : Instr) (x : Ctx) (n : Nat) (s : State) :
    State.runMicro (microOf i) x n (s.answering k b) =
      mapNext (.answering k b) (State.runMicro (microOf i) x n s) := by
  induction n generalizing s with
  | zero => rfl
  | succ n ih =>
    rw [State.runMicro, State.runMicro, State.answering_inflight]
    cases s.inflight.get x with
    | none => rfl
    | some r =>
      dsimp only
      rw [State.microStep_answering]
      cases s.microStep (microOf i) x r with
      | next t => exact ih t
      | fault e => rfl
      | refused e => rfl

/-- The number of micro-steps of ISR.RX depends on the pending frames, that of the others on the operation alone. -/
theorem wholeSteps_answering (i : Instr) (s : State) : wholeSteps (s.answering k b) i = wholeSteps s i := by
  cases i with
  | isrRx m => exact congrArg (fun q : List Nat => 13 * q.length + 3) (State.answering_rxq k b s m)
  | _ => rfl

/-- A whole operation commutes with changing the answer: the tests of R258 do not see it, and no micro-step does. -/
theorem exec_answering (i : Instr) (s : State) :
    exec i (s.answering k b) = mapNext (.answering k b) (exec i s) := by
  have hv : (s.answering k b).verdict i = s.verdict i := rfl
  rw [exec_eq_perform, exec_eq_perform, wholeSteps_answering, State.perform, State.perform, hv]
  cases s.verdict i with
  | refused code => rfl
  | busy c => rfl
  | accepted => exact State.runMicro_answering i _ _ (s.enter i)

end

/-- Settles O59: every operation commutes with a change of the answer. -/
theorem transmitStatusNeverRead : Obligations.TransmitStatusNeverRead := by
  intro s k b i answering
  refine (exec_answering i s).trans ?_
  cases exec i s <;> rfl

end Sys2Proof.Machine

namespace Sys2Proof

/-! ## The opcode map and the encoder are inverse (30_encoding.md R90, R94) -/

/-- The opcode map undoes the table of opcodes. -/
theorem decodeFields_opcode (i : Instr) : decodeFields i.opcode.toNat i.inst = .ok i := by
  cases i <;> rfl

theorem decodeSingle_ok_iff {inst : Nat} {i j : Instr} : decodeSingle inst i = .ok j ↔ inst = 0 ∧ i = j := by
  unfold decodeSingle
  split <;> simp_all

/-- The fields that name an operation are its own opcode and its own number. -/
theorem decodeFields_ok {op inst : Nat} {i : Instr} (h : decodeFields op inst = .ok i) :
    op = i.opcode.toNat ∧ inst = i.inst := by
  unfold decodeFields at h
  split at h
  case h_1 | h_2 | h_3 | h_6 =>
    obtain ⟨rfl, rfl⟩ := decodeSingle_ok_iff.mp h
    exact ⟨rfl, rfl⟩
  case h_29 => exact absurd h (by simp)
  all_goals
    cases h
    exact ⟨rfl, rfl⟩

theorem decode_encode {i : Instr} (h : i.wf = true) : decode (encode i) = .ok i := by
  obtain ⟨hop, hinst⟩ := Laws.OpcodeByte.of_fields i
  rw [decode, hop, hinst h, decodeFields_opcode]

/-- Settles O1. -/
theorem decodeEncodeRoundTrip : Obligations.DecodeEncodeRoundTrip := fun _ => decode_encode

/-- Settles O2: the two fields of the word are those of the operation, and a word is its two fields. -/
theorem encodeDecodeRoundTrip : Obligations.EncodeDecodeRoundTrip := by
  intro w i h
  obtain ⟨hop, hinst⟩ := decodeFields_ok h
  refine ⟨by simpa [Instr.wf, ← hinst] using instField_lt w, ?_⟩
  rw [encode, ← hinst, show i.opcode = BitVec.ofNat 8 (opcodeField w) by simp [hop], fields_append]

theorem decode_append (inst op : BitVec 8) : decode (inst ++ op) = decodeFields op.toNat inst.toNat := by
  rw [decode, opcodeField_append, instField_append]

/-- Settles O3, row by row of the map. -/
theorem opcodeMapRows : Obligations.OpcodeMapRows := by
  intro inst n
  constructor <;> simp only [List.forall_mem_cons, decode_append]
  · exact ⟨rfl, rfl, rfl, rfl, List.forall_mem_nil _⟩
  · exact ⟨rfl, rfl, rfl, rfl, rfl, rfl, rfl, rfl, rfl, rfl, rfl, rfl, rfl, rfl, rfl, rfl, rfl, rfl, rfl, rfl, rfl, rfl,
      rfl, rfl, List.forall_mem_nil _⟩

/-- Settles O5. -/
theorem specWordsDecode : Obligations.SpecWordsDecode :=
  ⟨rfl, rfl, rfl, rfl, rfl, rfl, rfl, rfl, rfl, rfl, rfl⟩

/-- The command word of a handler (R94, R95). -/
theorem encode_handler (k : Nat) (ev : EventKind) :
    encode (ev.handler k) = BitVec.ofNat 8 k ++ BitVec.ofNat 8 (0x40 + ev.code) := by
  cases ev with
  | err kind => cases kind <;> rfl
  | _ => rfl

theorem inst_handler (k : Nat) (ev : EventKind) : (ev.handler k).inst = k := by
  cases ev with
  | err kind => cases kind <;> rfl
  | _ => rfl

/-- Settles O10: the word is the handler's own, which decodes to it. -/
theorem eventWordIsHandler : Obligations.EventWordIsHandler := by
  intro k ev hk
  rw [← encode_handler]
  exact decode_encode (by simpa [Instr.wf, inst_handler] using hk)

end Sys2Proof

namespace Sys2Proof

/-! ## What the parameters say of a request (30_encoding.md R99, 60_exceptions.md R266) -/

/-- A link test that only an existing link can pass (R99). -/
theorem Params.link_test_iff (p : Params) (k : Nat) (test : LinkCfg → Bool) :
    (decide (k < p.nLnk) && test (p.link k)) = true ↔ ∃ l, p.links[k]? = some l ∧ test l = true := by
  unfold Params.nLnk Params.link
  by_cases hk : k < p.links.length <;> simp [List.getD_eq_getElem?_getD, hk]

/-- No context may issue an interrupt entry on its port (R266, R317). -/
theorem Instr.event_isSome_not_port {i : Instr} (p : Params) (x : Ctx) (entry : i.event.isSome = true) :
    i.portAllows p x = false := by
  cases i <;> first | rfl | exact absurd entry (by simp [Instr.event])

/-- What the table of roles allows is never a direct interrupt entry. -/
theorem Instr.dispatcher_of_roleAllows {p : Params} {i : Instr} {src : Source} (role : i.roleAllows p src = true)
    (entry : i.event.isSome = true) : src = .dispatcher := by
  cases src with
  | dispatcher => rfl
  | port x => exact absurd role (by simp [Instr.roleAllows, Instr.event_isSome_not_port p x entry])

end Sys2Proof

namespace Sys2Proof.Machine

/-! ## What reset leaves (10_state.md R55 to R57) -/

theorem State.resetWith_chan (p : Params) (c : Nat) :
    (State.resetWith p).chan c = if c < p.nCh then resetChan p c else ⟨0, 0, []⟩ := by
  unfold State.chan State.resetWith
  split <;> simp_all [List.getD_eq_getElem?_getD]

@[simp] theorem State.resetWith_head (p : Params) (c : Nat) : (State.resetWith p).head c = 0 := by
  rw [State.head, State.resetWith_chan]; split <;> rfl

@[simp] theorem State.resetWith_tail (p : Params) (c : Nat) : (State.resetWith p).tail c = 0 := by
  rw [State.tail, State.resetWith_chan]; split <;> rfl

@[simp] theorem State.resetWith_tx (p : Params) (k : Nat) : (State.resetWith p).tx k = .idle := by
  unfold State.tx State.resetWith
  by_cases hk : k < p.nLnk <;> simp [List.getD_eq_getElem?_getD, hk]

/-- Settles O6. -/
theorem resetRegisters : Obligations.ResetRegisters := fun p =>
  ⟨rfl, rfl, rfl, fun c => ⟨State.resetWith_head p c, State.resetWith_tail p c⟩, State.resetWith_tx p, rfl, rfl⟩

/-! ## Requests, events and the other moves (60_exceptions.md R256 to R265, R270, R280) -/

/-- A word that decodes starts its operation (R90). -/
theorem State.command_of_decode_ok {s : State} {whole : Bool} {req : Request} {w : CmdWord} {i : Instr}
    (h : decode w = .ok i) : s.command whole req w = s.start whole req i := by
  unfold State.command; rw [h]

/-- A step at an event, with `IRQ` idle, hands it to the dispatcher (R257). -/
theorem step_event {s : State} {whole : Bool} {k : Nat} {ev : EventKind} {rest : List Move}
    (hready : s.ready .irq = true) (hs : s.script = .event whole k ev :: rest) :
    step s = State.serve { s with script := rest } whole k ev := by
  simp [step, hs, State.move, hready]

/-- Settles O8. -/
theorem stepRunsRequestedWord : Obligations.StepRunsRequestedWord := by
  intro s x w a0 a1 rest i hready hs hw
  rw [step_request hready hs, State.command_of_decode_ok hw]
  rfl

/-- Settles O9: the dispatcher asks the handler table. -/
theorem stepServesEvent : Obligations.StepServesEvent := by
  intro s k ev rest hirq hs
  have hready : s.ready .irq = true := by simp [State.ready, hirq]
  rw [step_event hready hs, State.serve]
  exact ⟨fun h => if_pos h, fun h => if_neg (by simp [h])⟩

/-- A step takes the next move. -/
theorem step_move {s : State} {m : Move} {rest : List Move} (hs : s.script = m :: rest) :
    step s = s.move m rest := by
  unfold step; rw [hs]

/-- Settles O57, move by move. -/
theorem environmentMovesEffect : Obligations.EnvironmentMovesEffect := by
  intro s k n b rest h moves
  exact ⟨fun hs => step_move hs, fun hs => step_move hs, fun hs => step_move hs, fun hs => step_move hs⟩

/-! ## Refusals (60_exceptions.md R252, R258, R266) -/

theorem State.refusal_not_legal {s : State} {i : Instr} (legal : i.legal s.cfg = false) :
    s.refusal i = some .illegalCommand := by
  simp [State.refusal, legal]

theorem State.refusal_direct {s : State} {i : Instr} (legal : i.legal s.cfg = true) (entry : i.event.isSome = true)
    (hs : s.req.src ≠ .dispatcher) : s.refusal i = some .directIsrCall := by
  simp [State.refusal, legal, entry, hs]

theorem State.refusal_role {s : State} {i : Instr} (legal : i.legal s.cfg = true)
    (entry : i.event.isSome = true → s.req.src = .dispatcher) (role : i.roleAllows s.cfg s.req.src = false) :
    s.refusal i = some .roleViolation := by
  have direct : (i.event.isSome && s.req.src != .dispatcher) = false := by
    simpa [Bool.and_eq_false_imp] using entry
  simp only [State.refusal, legal, direct, role]
  rfl

/-- Settles O14: each reason, once the ones tested before it are out of the way, is the one recorded. -/
theorem refusedRequestChangesNothing : Obligations.RefusedRequestChangesNothing := fun _ _ =>
  ⟨fun legal => exec_refused (State.refusal_not_legal legal),
    fun legal entry hs => exec_refused (State.refusal_direct legal entry hs),
    fun legal entry role => exec_refused (State.refusal_role legal entry role)⟩

/-- A port request that is no interrupt entry and that its context may not issue is a role violation (R266). -/
theorem exec_roleViolation {s : State} {i : Instr} {x : Ctx} (hx : s.req.src = .port x)
    (legal : i.legal s.cfg = true) (entry : i.event = none) (role : i.portAllows s.cfg x = false) :
    exec i s = .next { s with result := s.result.set x .none, refusals := .roleViolation :: s.refusals } := by
  rw [exec_refused (State.refusal_role legal (by simp [entry]) (by rw [hx]; exact role)), State.refuse, hx]
  rfl

/-- Settles O16: the table of R266, row by row. -/
theorem wrongContextRefused : Obligations.WrongContextRefused := by
  intro s x n hx refused
  have refused_of {i : Instr} (legal : i.legal s.cfg = true) (entry : i.event = none)
      (role : i.portAllows s.cfg x = false) : refused i := exec_roleViolation hx legal entry role
  refine ⟨fun h => ?clock, fun hn h => ?ticker, fun hn hk => ⟨fun h => ?producer, fun h => ?consumer, fun hp hc => ?flags,
    fun h => ?clear⟩, fun hn hk => ?owned, fun h hn => ⟨fun side => ?rx, fun side => ?tx, ?lnkClear⟩⟩
  case clock => exact refused_of rfl rfl (by simp [Instr.portAllows, h])
  case ticker =>
    constructor <;> exact refused_of (by simp [Instr.legal, hn]) rfl (by simp [Instr.portAllows, h])
  case producer => exact refused_of (by simp [Instr.legal, hn]) rfl (by simp [Instr.portAllows, h])
  case consumer =>
    refine ⟨?_, ?_, ?_⟩ <;> exact refused_of (by simp [Instr.legal, hn]) rfl (by simp [Instr.portAllows, h])
  case flags =>
    constructor <;> exact refused_of (by simp [Instr.legal, hn]) rfl (by simp [Instr.portAllows, hp, hc])
  case clear => exact refused_of (by simp [Instr.legal, hn]) rfl (by simp [Instr.portAllows, h])
  case owned =>
    have owned : s.cfg.standAlone n = false := by simpa [Params.standAlone] using hk
    refine ⟨?_, ?_, ?_, ?_, ?_, ?_, ?_⟩ <;>
      exact refused_of (by simp [Instr.legal, hn]) rfl (by simp [Instr.portAllows, owned])
  case rx =>
    refine ⟨?_, ?_, ?_⟩ <;> exact refused_of (by simp [Instr.legal, hn, side]) rfl (by simp [Instr.portAllows, h])
  case tx =>
    refine ⟨?_, ?_, ?_⟩ <;> exact refused_of (by simp [Instr.legal, hn, side]) rfl (by simp [Instr.portAllows, h])
  case lnkClear => exact refused_of (by simp [Instr.legal, hn]) rfl (by simp [Instr.portAllows, h])

/-- Settles O15. -/
theorem legalInstances : Obligations.LegalInstances := by
  intro p n
  have side (test : LinkCfg → Bool) := p.link_test_iff n test
  simp only [List.forall_mem_cons, List.not_mem_nil, false_imp_iff, implies_true, and_true]
  refine ⟨⟨rfl, rfl, rfl, rfl⟩, ?ticker, ?channel, ?rx, ?tx, ?link, ?timestamped⟩
  case ticker => constructor <;> exact decide_eq_true_iff
  case channel => refine ⟨?_, ?_, ?_, ?_, ?_, ?_, ?_⟩ <;> exact decide_eq_true_iff
  case rx => refine ⟨?_, ?_, ?_, ?_⟩ <;> exact side (·.hasRx)
  case tx => refine ⟨?_, ?_, ?_, ?_⟩ <;> exact side (·.hasTx)
  case link => exact decide_eq_true_iff
  case timestamped =>
    have both := side fun l => l.hasRx && l.timestamp
    refine ⟨?_, ?_, ?_, ?_, ?_, ?_⟩ <;>
      simpa [Instr.legal, Params.hasRx, Params.timestamp, and_assoc] using both

/-! ## Admission (R99, R165, R266) -/

theorem State.refusal_eq_none {s : State} {i : Instr} (legal : i.legal s.cfg = true)
    (role : i.roleAllows s.cfg s.req.src = true) : s.refusal i = none := by
  have direct : (i.event.isSome && s.req.src != .dispatcher) = false := by
    simpa [Bool.and_eq_false_imp] using Instr.dispatcher_of_roleAllows role
  simp [State.refusal, legal, direct, role]

theorem State.busyChannel_eq_none_iff (s : State) (i : Instr) :
    s.busyChannel i = none ↔ (s.req.src.ctx = .irq → ∀ c ∈ i.uses s.cfg, c ∉ s.clearing) := by
  unfold State.busyChannel
  cases s.req.src.ctx <;> simp

/-- Acceptance is what `State.mayStart` says. -/
theorem State.verdict_accepted_iff_mayStart (s : State) (i : Instr) : s.verdict i = .accepted ↔ s.mayStart i := by
  rw [State.verdict_accepted_iff, State.busyChannel_eq_none_iff, State.mayStart]
  exact ⟨fun ⟨legal, _, role, quiet⟩ => ⟨legal, role, quiet⟩,
    fun ⟨legal, role, quiet⟩ => ⟨legal, Instr.dispatcher_of_roleAllows role, role, quiet⟩⟩

/-- Settles O18. -/
theorem clearBusyRaised : Obligations.ClearBusyRaised := by
  intro s i c legal role hx huses hc
  have hbusy : s.busyChannel i = some c := by simp [State.busyChannel, hx, huses, hc]
  have hv : s.verdict i = .busy c := by simp [State.verdict, State.refusal_eq_none legal role, hbusy]
  rw [exec_eq_perform, State.perform_busy hv]

end Sys2Proof.Machine

namespace Sys2Proof

/-! ## Well-formed parameters: what a link owns, and the two roles of its channels (10_state.md R41) -/

theorem LinkCfg.mem_owned {l : LinkCfg} {c : Nat} :
    c ∈ l.owned ↔ (l.hasRx = true ∧ l.rxCh = c) ∨ (l.hasTx = true ∧ l.txCh = c) := by
  unfold LinkCfg.owned
  cases l.hasRx <;> cases l.hasTx <;> simp [eq_comm]

theorem LinkCfg.kindOf_eq_none_iff {l : LinkCfg} {c : Nat} : l.kindOf c = none ↔ c ∉ l.owned := by
  rw [LinkCfg.mem_owned, LinkCfg.kindOf]
  split_ifs <;> simp_all

theorem LinkCfg.kindOf_rx {l : LinkCfg} (h : l.hasRx = true) :
    l.kindOf l.rxCh = some (if l.timestamp then .rxRecord else .rxFrame) := by
  simp [LinkCfg.kindOf, h]

/-- The two sides of a link own two channels. -/
theorem LinkCfg.kindOf_tx {l : LinkCfg} (h : l.hasTx = true) (nodup : l.owned.Nodup) : l.kindOf l.txCh = some .tx := by
  have hne : ¬ (l.hasRx = true ∧ l.rxCh = l.txCh) := by
    rintro ⟨hrx, he⟩
    simp [LinkCfg.owned, hrx, h, he] at nodup
  simp [LinkCfg.kindOf, h, hne]

/-- The link that owns a channel gives it its kind, whichever links come before it. -/
theorem findSome?_kindOf {links : List LinkCfg} {l : LinkCfg} {c : Nat} {κ : ChanKind}
    (nodup : (links.flatMap LinkCfg.owned).Nodup) (hl : l ∈ links) (hk : l.kindOf c = some κ) :
    links.findSome? (·.kindOf c) = some κ := by
  induction links with
  | nil => cases hl
  | cons a links ih =>
    rw [List.flatMap_cons, List.nodup_append'] at nodup
    obtain ⟨-, nodup, disjoint⟩ := nodup
    rcases List.mem_cons.mp hl with rfl | hl
    · simp [hk]
    · have howned : c ∈ l.owned := by
        by_contra h
        simp [LinkCfg.kindOf_eq_none_iff.mpr h] at hk
      have hnone : a.kindOf c = none :=
        LinkCfg.kindOf_eq_none_iff.mpr fun ha => disjoint ha (List.mem_flatMap.mpr ⟨l, hl, howned⟩)
      simp [hnone, ih nodup hl]

section
variable {p : Params} {k : Nat}

theorem Params.link_mem (hk : k < p.nLnk) : p.link k ∈ p.links := by
  unfold Params.link
  rw [List.getD_eq_getElem _ _ hk]
  exact List.getElem_mem hk

theorem Params.wf_nodup (h : p.wf = true) : (p.links.flatMap LinkCfg.owned).Nodup := by
  simp only [Params.wf, Bool.and_eq_true, decide_eq_true_eq] at h
  exact h.2

/-- Every capacity is at least 1 (R6). -/
theorem Params.one_le_cap (h : p.wf = true) {c : Nat} (hc : c < p.nCh) : 1 ≤ p.cap c := by
  simp only [Params.wf, Bool.and_eq_true, List.all_eq_true, decide_eq_true_eq] at h
  obtain ⟨⟨hcap, -⟩, -⟩ := h
  unfold Params.cap Params.chan
  rw [List.getD_eq_getElem _ _ hc]
  exact hcap _ (List.getElem_mem hc)

/-- The channels of a link exist (R41). -/
theorem Params.owned_lt (h : p.wf = true) (hk : k < p.nLnk) {c : Nat} (hc : c ∈ (p.link k).owned) : c < p.nCh := by
  simp only [Params.wf, LinkCfg.wf, Bool.and_eq_true, List.all_eq_true, decide_eq_true_eq] at h
  obtain ⟨⟨-, hlinks⟩, -⟩ := h
  exact (hlinks _ (Params.link_mem hk)).2 c hc

theorem Params.rx_mem_owned (side : p.hasRx k = true) : p.rx k ∈ (p.link k).owned :=
  LinkCfg.mem_owned.mpr (.inl ⟨side, rfl⟩)

theorem Params.tx_mem_owned (side : p.hasTx k = true) : p.tx k ∈ (p.link k).owned :=
  LinkCfg.mem_owned.mpr (.inr ⟨side, rfl⟩)

theorem Params.kind_of_link (h : p.wf = true) (hk : k < p.nLnk) {c : Nat} {κ : ChanKind}
    (hc : (p.link k).kindOf c = some κ) : p.kind c = κ := by
  rw [Params.kind, findSome?_kindOf (Params.wf_nodup h) (Params.link_mem hk) hc]
  rfl

theorem Params.kind_rx (h : p.wf = true) (hk : k < p.nLnk) (side : p.hasRx k = true) :
    p.kind (p.rx k) = if p.timestamp k then .rxRecord else .rxFrame :=
  Params.kind_of_link h hk (LinkCfg.kindOf_rx side)

theorem Params.kind_tx (h : p.wf = true) (hk : k < p.nLnk) (side : p.hasTx k = true) : p.kind (p.tx k) = .tx :=
  Params.kind_of_link h hk (LinkCfg.kindOf_tx side ((List.nodup_flatMap.mp (Params.wf_nodup h)).1 _ (Params.link_mem hk)))

theorem Params.roles_rx (h : p.wf = true) (hk : k < p.nLnk) (side : p.hasRx k = true) :
    p.prod (p.rx k) = .irq ∧ p.cons (p.rx k) = .fg := by
  unfold Params.prod Params.cons
  rw [Params.kind_rx h hk side]
  cases p.timestamp k <;> exact ⟨rfl, rfl⟩

theorem Params.roles_tx (h : p.wf = true) (hk : k < p.nLnk) (side : p.hasTx k = true) :
    p.prod (p.tx k) = .fg ∧ p.cons (p.tx k) = .irq := by
  simp only [Params.prod, Params.cons, Params.kind_tx h hk side, and_self]

/-- No two links own one channel (R41). -/
theorem Params.owner_unique (h : p.wf = true) {m c : Nat} (hk : k < p.nLnk) (hm : m < p.nLnk)
    (ck : c ∈ (p.link k).owned) (cm : c ∈ (p.link m).owned) : k = m := by
  have hpair := List.pairwise_iff_getElem.mp (List.nodup_flatMap.mp (Params.wf_nodup h)).2
  have apart {a b : Nat} (ha : a < p.nLnk) (hb : b < p.nLnk) (ca : c ∈ (p.link a).owned) (cb : c ∈ (p.link b).owned) :
      ¬ a < b := by
    intro hlt
    unfold Params.link at ca cb
    rw [List.getD_eq_getElem _ _ ha] at ca
    rw [List.getD_eq_getElem _ _ hb] at cb
    exact hpair a b ha hb hlt ca cb
  have := apart hk hm ck cm
  have := apart hm hk cm ck
  omega

end

/-! ## Which context an admitted operation runs in (60_exceptions.md R266) -/

/-- The operation may run in context `x` (R99, R266): what `State.inFlightOk` asks of it. -/
def Instr.admitted (p : Params) (x : Ctx) (i : Instr) : Prop :=
  i.legal p = true ∧ (i.portAllows p x = true ∨ (x = .irq ∧ i.event.isSome = true))

/-- The part an operation takes in a channel (10_state.md R40): the channels it appends to, as their producer. -/
def Instr.fills (p : Params) : Instr → List Nat
  | .chWrite c => [c]
  | .lnkWrite k => [p.tx k]
  | .isrRx k | .isrErrWarn k | .isrErrOvf k | .isrErrWake k | .isrErrPassive k | .isrErrArb k | .isrErrBus k => [p.rx k]
  | _ => []

/-- The channels an operation takes the oldest element of, as their consumer. -/
def Instr.drains (p : Params) : Instr → List Nat
  | .chRead c | .chDiscard c => [c]
  | .lnkRead k => [p.rx k]
  | .isrTxDone k => [p.tx k]
  | _ => []

theorem Instr.fills_subset_uses (p : Params) (i : Instr) : i.fills p ⊆ i.uses p := by
  cases i <;> simp [Instr.fills, Instr.uses]

theorem Instr.drains_subset_uses (p : Params) (i : Instr) : i.drains p ⊆ i.uses p := by
  cases i <;> simp [Instr.drains, Instr.uses]

theorem Instr.clears_subset_uses (p : Params) (i : Instr) : i.clears p ⊆ i.uses p := by
  cases i <;> simp [Instr.clears, Instr.uses]

/-- An operation that clears a channel neither fills nor drains one. -/
theorem Instr.clears_eq_nil {p : Params} {i : Instr} {c : Nat} (h : c ∈ i.fills p ∨ c ∈ i.drains p) :
    i.clears p = [] := by
  cases i <;> simp_all [Instr.fills, Instr.drains, Instr.clears]

theorem fills_handler_err (p : Params) (k : Nat) (kind : ErrKind) :
    (EventKind.handler k (.err kind)).fills p = [p.rx k] := by cases kind <;> rfl

section
variable {p : Params} {x : Ctx} {i : Instr} {c : Nat}

/-- The channels an admitted operation uses exist (R99). -/
theorem Instr.admitted.uses_lt (h : i.admitted p x) (hp : p.wf = true) (hc : c ∈ i.uses p) : c < p.nCh := by
  obtain ⟨legal, -⟩ := h
  have rx {k : Nat} (hk : k < p.nLnk) (side : p.hasRx k = true) : p.rx k < p.nCh :=
    Params.owned_lt hp hk (Params.rx_mem_owned side)
  have tx {k : Nat} (hk : k < p.nLnk) (side : p.hasTx k = true) : p.tx k < p.nCh :=
    Params.owned_lt hp hk (Params.tx_mem_owned side)
  cases i
  case lnkClear k => exact Params.owned_lt hp (by simpa [Instr.legal] using legal) hc
  all_goals simp_all [Instr.legal, Instr.uses]

/-- An operation that appends to a channel runs in the channel's producer (R266). -/
theorem Instr.admitted.prod_eq (h : i.admitted p x) (hp : p.wf = true) (hc : c ∈ i.fills p) : p.prod c = x := by
  obtain ⟨legal, role⟩ := h
  have rx {k : Nat} (hk : k < p.nLnk) (side : p.hasRx k = true) := Params.roles_rx hp hk side
  have tx {k : Nat} (hk : k < p.nLnk) (side : p.hasTx k = true) := Params.roles_tx hp hk side
  cases i <;> simp_all [Instr.legal, Instr.fills, Instr.portAllows, Instr.event]

/-- An operation that takes an element of a channel runs in the channel's consumer (R266). -/
theorem Instr.admitted.cons_eq (h : i.admitted p x) (hp : p.wf = true) (hc : c ∈ i.drains p) : p.cons c = x := by
  obtain ⟨legal, role⟩ := h
  have rx {k : Nat} (hk : k < p.nLnk) (side : p.hasRx k = true) := Params.roles_rx hp hk side
  have tx {k : Nat} (hk : k < p.nLnk) (side : p.hasTx k = true) := Params.roles_tx hp hk side
  cases i <;> simp_all [Instr.legal, Instr.drains, Instr.portAllows, Instr.event]

end

end Sys2Proof

namespace Sys2Proof.Machine

/-! ## What the invariant says of the operation in flight, read by operation -/

section
variable {s : State} {r : InFlight} {k c : Nat}

theorem State.tempsOk_handler_err {kind : ErrKind} (h : r.instr = EventKind.handler k (.err kind)) :
    s.tempsOk r ↔ r.ustep ≤ 10 ∧ (6 ≤ r.ustep → s.writerOk (s.cfg.rx k) (r.ustep - 5) r.temps) := by
  cases kind <;> simp only [EventKind.handler] at h <;> simp only [State.tempsOk, h]

theorem State.cargoTyped_handler_err {kind : ErrKind} (h : r.instr = EventKind.handler k (.err kind)) :
    s.cargoTyped r ↔ (6 ≤ r.ustep → r.temps.elem.fits s.cfg (s.cfg.rx k) = true) := by
  cases kind <;> simp only [EventKind.handler] at h <;> simp only [State.cargoTyped, h]

/-- What a producer knows at a step it knows of every earlier one. -/
theorem State.writerOk.mono {i j : Nat} {t : Temps} (h : s.writerOk c j t) (hij : i ≤ j) : s.writerOk c i t :=
  ⟨fun hi => h.1 (by omega), fun hi => h.2.1 (by omega), fun hi => h.2.2 (by omega)⟩

/-- Past W3 the producer's `tail` is current and there is room (R161, R169). -/
theorem State.writerOk.room {t : Temps} (h : s.writerOk c 4 t) :
    t.tail = s.tail c ∧ s.occupancy c < s.cfg.cap c := by
  obtain ⟨hhead, htail, hroom⟩ := h
  obtain ⟨-, hle, hstale⟩ := hhead (by decide)
  have hne : ¬ occ (s.cfg.cap c) t.tail t.head = s.cfg.cap c := by
    rw [← isFull_iff]; simp [hroom (by decide)]
  rw [htail (by decide)] at hne
  exact ⟨htail (by decide), by omega⟩

/-- Past Q3 the consumer's `head` is current and there is an element (R162, R169). -/
theorem State.readerOk.nonempty {t : Temps} (h : s.readerOk c 4 t) (hin : s.cursorsIn c) :
    t.head = s.head c ∧ s.tail c ≠ s.head c := by
  obtain ⟨htail, hhead, hsome⟩ := h
  obtain ⟨hlt, hstale⟩ := htail (by decide)
  have hne : ¬ t.tail = t.head := by rw [← isEmpty_iff]; simp [hsome (by decide)]
  rw [hhead (by decide), ← occ_eq_zero_iff hlt hin.1] at hne
  refine ⟨hhead (by decide), fun he => hne ?_⟩
  have : s.occupancy c = 0 := (occ_eq_zero_iff hin.2 hin.1).mpr he
  omega

theorem State.readerOk.mono {i j : Nat} {t : Temps} (h : s.readerOk c j t) (hij : i ≤ j) : s.readerOk c i t :=
  ⟨fun hi => h.1 (by omega), fun hi => h.2.1 (by omega), fun hi => h.2.2 (by omega)⟩

end

/-! ## One micro-step makes at most one store

`r.Wrote s t` lists the stores that the micro-step of an operation in flight may make, with what its record says of the value
stored. Every statement about who writes what, and about what a store does to a channel, rests on it. -/

/-- `t` is `s` after the store that the micro-step of `r` may make. -/
inductive InFlight.Wrote (r : InFlight) (s : State) : State → Prop
  | nothing : r.Wrote s s
  /-- U5. -/
  | epoch (who : r.instr = .clkUpdate) (step : r.ustep = 5) :
    r.Wrote s (s.setEpoch (1 - r.temps.cur) (rollover r.temps.epoch r.temps.last r.temps.sample))
  /-- U6. -/
  | last (who : r.instr = .clkUpdate) (step : r.ustep = 6) : r.Wrote s (s.setLast (1 - r.temps.cur) r.temps.sample)
  /-- U7. -/
  | publish (who : r.instr = .clkUpdate) (step : ∀ x, s.inFlightOk x r → r.ustep = 7) :
    r.Wrote s (s.setIdx (1 - r.temps.cur))
  | expiry (t : Nat) (v : Micros) (who : r.instr = .tckCheck t ∨ r.instr = .tckReset t) : r.Wrote s (s.setExpiry t v)
  /-- W4. -/
  | fill (c : Nat) (v : Elem) (who : c ∈ r.instr.fills s.cfg)
    (room : ∀ x, s.inFlightOk x r → s.writerOk c 4 r.temps)
    (typed : ∀ x, s.cfg.wf = true → s.inFlightOk x r → s.cargoTyped r → v.fits s.cfg c = true) :
    r.Wrote s (s.memWrite c (r.temps.tail % s.cfg.cap c) v)
  /-- W5. -/
  | push (c : Nat) (who : c ∈ r.instr.fills s.cfg) (room : ∀ x, s.inFlightOk x r → s.writerOk c 4 r.temps) :
    r.Wrote s (s.setTail c (cursorNext (s.cfg.cap c) r.temps.tail))
  /-- Q5. -/
  | pop (c : Nat) (who : c ∈ r.instr.drains s.cfg)
    (some : ∀ x, s.inFlightOk x r → s.cursorsIn c → r.temps.head = s.head c ∧ s.tail c ≠ s.head c) :
    r.Wrote s (s.setHead c (cursorNext (s.cfg.cap c) r.temps.head))
  | clearHead (c : Nat) (who : c ∈ r.instr.clears s.cfg) : r.Wrote s (s.setHead c 0)
  | clearTail (c : Nat) (who : c ∈ r.instr.clears s.cfg) : r.Wrote s (s.setTail c 0)
  | tx (k : Nat) (v : TxState) (who : r.instr = .lnkWrite k ∨ r.instr = .lnkClear k ∨ r.instr = .isrTxDone k)
    (mode : v = .busy → s.cfg.txMode k = .buffered) : r.Wrote s (s.setTx k v)
  | peripheral (k : Nat) (h : Peripheral)
    (who : r.instr = .lnkWrite k ∨ r.instr = .isrTxDone k ∨ r.instr = .isrRx k)
    (pending : ∀ f ∈ h.rxq, f ∈ (s.peripheral k).rxq) : r.Wrote s (s.setPeripheral k h)

/-- The faults an operation may raise at one of its micro-steps (60_exceptions.md R250). -/
def faultsOf (p : Params) : Instr → List Fault
  | .chRead c => [.readEmpty c]
  | .lnkRead k => [.readEmpty (p.rx k)]
  | .chPeek c => [.peekEmpty c]
  | .chDiscard c => [.discardEmpty c]
  | _ => []

/-- A micro-step makes a store that `P` admits, if any, or raises a fault of `F`. -/
def Micro.Does (P : State → Prop) (F : List Fault) : Micro → Prop
  | .goto _ s => P s
  | .done _ s => P s
  | .raise f => f ∈ F

/-- The same for a micro-step of a called operation. -/
def Sub.Does (P : State → Prop) (F : List Fault) : Sub → Prop
  | .more _ s => P s
  | .ret _ s => P s
  | .raise f => f ∈ F

/-- A call makes the store of the called operation, when what follows its return makes none. -/
theorem Sub.andThen_does {P : State → Prop} {F : List Fault} {u : Sub} {r : InFlight} {k : Temps → State → Micro}
    (hu : u.Does P F) (hk : ∀ t s, P s → (k t s).Does P F) : (u.andThen r k).Does P F := by
  cases u with
  | more t s => exact hu
  | ret t s => exact hk t s hu
  | raise f => exact hu

section
variable {P : State → Prop} {F : List Fault} {s : State}

theorem clkReadSub_does (h : P s) (j : Nat) (t : Temps) : (clkReadSub j t s).Does P F := by
  unfold clkReadSub; split <;> exact h

theorem cursorsSub_does (h : P s) (c j : Nat) (t : Temps) : (cursorsSub c j t s).Does P F := by
  unfold cursorsSub; split <;> exact h

theorem chClearSub_does {c : Nat} (hhead : P (s.setHead c 0)) (htail : P (s.setTail c 0)) (j : Nat) (t : Temps) :
    (chClearSub c j t s).Does P F := by
  unfold chClearSub; split
  · exact hhead
  · exact htail

theorem chWriteSub_does {c j : Nat} {v : Elem} {t : Temps} (h : P s)
    (hfill : j = 4 → P (s.memWrite c (t.tail % s.cfg.cap c) v))
    (hpush : (1 ≤ j → 5 ≤ j) → P (s.setTail c (cursorNext (s.cfg.cap c) t.tail))) :
    (chWriteSub c v j t s).Does P F := by
  unfold chWriteSub
  split
  case h_3 => split <;> exact h
  case h_4 => exact hfill rfl
  case h_5 => exact hpush (by simp only [imp_false] at *; omega)
  all_goals exact h

theorem chReadSub_does {c j : Nat} {t : Temps} (h : P s)
    (hpop : (1 ≤ j → 5 ≤ j) → P (s.setHead c (cursorNext (s.cfg.cap c) t.head))) (hF : .readEmpty c ∈ F) :
    (chReadSub c j t s).Does P F := by
  unfold chReadSub
  split
  case h_3 =>
    split
    · exact hF
    · exact h
  case h_5 => exact hpop (by simp only [imp_false] at *; omega)
  all_goals exact h

theorem chPeekSub_does {c : Nat} (h : P s) (hF : .peekEmpty c ∈ F) (j : Nat) (t : Temps) :
    (chPeekSub c j t s).Does P F := by
  unfold chPeekSub
  split
  case h_3 =>
    split
    · exact hF
    · exact h
  all_goals exact h

theorem chDiscardSub_does {c j : Nat} {t : Temps} (h : P s)
    (hpop : (1 ≤ j → 4 ≤ j) → P (s.setHead c (cursorNext (s.cfg.cap c) t.head))) (hF : .discardEmpty c ∈ F) :
    (chDiscardSub c j t s).Does P F := by
  unfold chDiscardSub
  split
  case h_3 =>
    split
    · exact hF
    · exact h
  case h_4 => exact hpop (by simp only [imp_false] at *; omega)
  all_goals exact h

end

/-! ### Operation by operation -/

/-- A micro-step of the operation held as `r` makes one of the stores of `InFlight.Wrote`, or none, or raises one of its
operation's faults. -/
def InFlight.Does (r : InFlight) (s : State) (m : Micro) : Prop := m.Does (r.Wrote s) (faultsOf s.cfg r.instr)

section
variable {r : InFlight} {s : State} {c k : Nat}

theorem microClkUpdate_does (hr : r.instr = .clkUpdate) : r.Does s (microClkUpdate r s) := by
  unfold microClkUpdate
  dsimp only
  split
  case h_5 step => exact .epoch hr step
  case h_6 step => exact .last hr step
  case h_7 =>
    refine .publish hr fun x ⟨_, _, h1, temps⟩ => ?_
    simp only [State.tempsOk, hr] at temps
    simp only [imp_false] at *
    omega
  all_goals exact .nothing

theorem microTckCheck_does {t : Nat} (hr : r.instr = .tckCheck t) : r.Does s (microTckCheck t r s) := by
  unfold microTckCheck
  split
  case h_1 => exact .nothing
  case h_2 =>
    show r.Wrote s (if _ then _ else _)
    split
    · exact .expiry t _ (.inl hr)
    · exact .nothing
  case h_3 => exact Sub.andThen_does (clkReadSub_does .nothing _ _) fun _ _ h => h

theorem microTckReset_does {t : Nat} (hr : r.instr = .tckReset t) : r.Does s (microTckReset t r s) := by
  unfold microTckReset
  split
  · exact .expiry t _ (.inr hr)
  · exact Sub.andThen_does (clkReadSub_does .nothing _ _) fun _ _ h => h

theorem microChWrite_does (hr : r.instr = .chWrite c) : r.Does s (microChWrite c r s) := by
  have who : c ∈ r.instr.fills s.cfg := by simp [hr, Instr.fills]
  have ok {x : Ctx} (h : s.inFlightOk x r) : 1 ≤ r.ustep ∧ s.writerOk c r.ustep r.temps := by
    obtain ⟨-, -, h1, temps⟩ := h
    simp only [State.tempsOk, hr] at temps
    exact ⟨h1, temps.2⟩
  refine Sub.andThen_does (chWriteSub_does .nothing (fun hj => ?fill) fun hj => ?push) fun _ _ h => h
  case fill =>
    refine .fill c _ who (fun x h => (ok h).2.mono (by omega)) fun x hp h cargo => ?_
    obtain ⟨-, role, -⟩ := h
    simp only [hr, Instr.portAllows, Params.standAlone, Instr.event] at role
    simp only [State.cargoTyped, hr] at cargo
    simp_all [Elem.fits]
  case push => exact .push c who fun x h => (ok h).2.mono (by have := ok h; omega)

/-- CH.READ of a channel that the operation consumes: CH.READ itself and LNK.READ. -/
theorem microChRead_does (hdrain : c ∈ r.instr.drains s.cfg) (hraise : .readEmpty c ∈ faultsOf s.cfg r.instr)
    (ok : ∀ x, s.inFlightOk x r → s.readerOk c r.ustep r.temps) : r.Does s (microChRead c r s) := by
  refine Sub.andThen_does (chReadSub_does .nothing (fun hj => .pop c hdrain fun x h hin => ?_) hraise) fun _ _ h => h
  have h1 : 1 ≤ r.ustep := h.2.2.1
  exact ((ok x h).mono (by omega)).nonempty hin

theorem microChDiscard_does (hr : r.instr = .chDiscard c) : r.Does s (microChDiscard c r s) := by
  refine Sub.andThen_does (chDiscardSub_does .nothing
    (fun hj => .pop c (by simp [hr, Instr.drains]) fun x h hin => ?_) (by simp [hr, faultsOf])) fun _ _ h => h
  obtain ⟨-, -, h1, temps⟩ := h
  simp only [State.tempsOk, hr] at temps
  exact (temps.mono (by omega)).nonempty hin

theorem microChClear_does (hr : r.instr = .chClear c) : r.Does s (microChClear c r s) :=
  have who : c ∈ r.instr.clears s.cfg := by simp [hr, Instr.clears]
  Sub.andThen_does (chClearSub_does (.clearHead c who) (.clearTail c who) _ _) fun _ _ h => h

theorem microCursors_does {f : Temps → State → Result} :
    r.Does s ((cursorsSub c r.ustep r.temps s).andThen r fun t s => .done (f t s) s) :=
  Sub.andThen_does (cursorsSub_does .nothing _ _ _) fun _ _ h => h

theorem microIsrErr_does {kind : ErrKind} (hr : r.instr = EventKind.handler k (.err kind)) :
    r.Does s (microIsrErr kind k r s) := by
  have who : s.cfg.rx k ∈ r.instr.fills s.cfg := by simp [hr, fills_handler_err]
  unfold microIsrErr
  split
  · exact Sub.andThen_does (clkReadSub_does .nothing _ _) fun _ _ h => h
  · next hstep =>
    have ok {x : Ctx} (h : s.inFlightOk x r) : s.writerOk (s.cfg.rx k) (r.ustep - 5) r.temps :=
      ((State.tempsOk_handler_err hr).mp h.2.2.2).2 (by omega)
    refine Sub.andThen_does (chWriteSub_does .nothing (fun hj => ?fill) fun hj => ?push) fun _ _ h => h
    case fill =>
      exact .fill _ _ who (fun x h => (ok h).mono (by omega)) fun x _ _ cargo =>
        (State.cargoTyped_handler_err hr).mp cargo (by omega)
    case push => exact .push _ who fun x h => (ok h).mono (by omega)

theorem microIsrRx_does (hr : r.instr = .isrRx k) : r.Does s (microIsrRx k r s) := by
  have who : s.cfg.rx k ∈ r.instr.fills s.cfg := by simp [hr, Instr.fills]
  unfold microIsrRx
  dsimp only
  split
  case h_1 | h_2 => exact .nothing
  case h_3 =>
    obtain ⟨-, h⟩ | ⟨f, rest, hq, h⟩ := s.hwRecv_cases k <;> rw [h]
    · exact .nothing
    · exact .peripheral k _ (.inr (.inr hr)) fun g hg => by rw [hq]; exact List.mem_cons_of_mem f hg
  case h_4 =>
    show r.Wrote s (s.residue k)
    unfold State.residue
    split
    · exact .peripheral k _ (.inr (.inr hr)) (by simp)
    · exact .nothing
  case h_5 =>
    split
    · split
      · exact Sub.andThen_does (clkReadSub_does .nothing _ _) fun _ _ h => h
      · exact .nothing
    · have ok {x : Ctx} (h : s.inFlightOk x r) : r.ustep ≤ 13 ∧ s.writerOk (s.cfg.rx k) (r.ustep - 8) r.temps := by
        obtain ⟨-, -, -, temps⟩ := h
        simp only [State.tempsOk, hr] at temps
        simp only [imp_false] at *
        exact ⟨by omega, temps.2 (by omega) (by omega)⟩
      refine Sub.andThen_does (chWriteSub_does .nothing (fun hj => ?fill) fun hj => ?push) fun _ _ h => h
      case fill =>
        refine .fill _ _ who (fun x h => (ok h).2.mono (by omega)) fun x _ h cargo => ?_
        simp only [State.cargoTyped, hr] at cargo
        exact cargo.2 (by omega) (ok h).1
      case push => exact .push _ who fun x h => (ok h).2.mono (by omega)

theorem microLnkWrite_does (hr : r.instr = .lnkWrite k) : r.Does s (microLnkWrite k r s) := by
  have who : s.cfg.tx k ∈ r.instr.fills s.cfg := by simp [hr, Instr.fills]
  unfold microLnkWrite
  dsimp only
  split
  case h_1 | h_4 => exact .nothing
  case h_2 =>
    show r.Wrote s (s.hwXmit k r.arg0).2
    rw [State.hwXmit_eq]
    split
    · exact .peripheral k _ (.inl hr) fun _ h => h
    · exact .nothing
  case h_3 =>
    show r.Wrote s (if _ then _ else _)
    split
    · next mode => exact .tx k _ (.inl hr) fun _ => mode
    · exact .nothing
  case h_5 => split <;> exact .nothing
  case h_6 =>
    show r.Wrote s (if _ then _ else _)
    split
    · next mode => exact .tx k _ (.inl hr) fun _ => mode.1
    · exact .nothing
  case h_7 =>
    have ok {x : Ctx} (h : s.inFlightOk x r) :
        6 ≤ r.ustep ∧ s.writerOk (s.cfg.tx k) (r.ustep - 5) r.temps := by
      obtain ⟨-, -, h1, temps⟩ := h
      simp only [State.tempsOk, hr] at temps
      simp only [imp_false] at *
      exact ⟨by omega, temps.2 (by omega) (by omega)⟩
    refine Sub.andThen_does (chWriteSub_does .nothing (fun hj => ?fill) fun hj => ?push) fun _ _ h => h
    case fill =>
      refine .fill _ _ who (fun x h => (ok h).2.mono (by omega)) fun x hp h cargo => ?_
      obtain ⟨legal, -⟩ := h
      simp only [hr, Instr.legal, Bool.and_eq_true, decide_eq_true_eq] at legal
      simp only [State.cargoTyped, hr] at cargo
      simpa [Elem.fits, Params.elemW, Params.kind_tx hp legal.1 legal.2] using cargo
    case push => exact .push _ who fun x h => (ok h).2.mono (by have := ok h; omega)

theorem microLnkClear_does (hr : r.instr = .lnkClear k) : r.Does s (microLnkClear k r s) := by
  have rx (side : s.cfg.hasRx k = true) : s.cfg.rx k ∈ r.instr.clears s.cfg := by
    rw [hr]; exact Params.rx_mem_owned side
  have tx (side : s.cfg.hasTx k = true) : s.cfg.tx k ∈ r.instr.clears s.cfg := by
    rw [hr]; exact Params.tx_mem_owned side
  have ifSide {side : Prop} [Decidable side] {t : State} (h : side → r.Wrote s t) :
      r.Wrote s (if side then t else s) := by
    split
    · next hs => exact h hs
    · exact .nothing
  unfold microLnkClear
  dsimp only
  split
  · exact ifSide fun side => .clearHead _ (rx side)
  · exact ifSide fun side => .clearTail _ (rx side)
  · exact ifSide fun side => .clearHead _ (tx side)
  · exact ifSide fun side => .clearTail _ (tx side)
  · exact ifSide fun _ => .tx k _ (.inr (.inl hr)) (by simp)

theorem microIsrTxDone_does (hr : r.instr = .isrTxDone k) : r.Does s (microIsrTxDone k r s) := by
  unfold microIsrTxDone
  dsimp only
  split
  case h_3 =>
    show r.Wrote s (if _ then _ else _)
    split
    · exact .tx k _ (.inr (.inr hr)) (by simp)
    · exact .nothing
  case h_5 =>
    rw [State.hwXmit_eq]
    split
    · exact .peripheral k _ (.inr (.inl hr)) fun _ h => h
    · exact .nothing
  case h_8 =>
    refine .pop _ (by simp [hr, Instr.drains]) fun x h _ => ?_
    obtain ⟨-, -, h1, temps⟩ := h
    simp only [State.tempsOk, hr] at temps
    obtain ⟨-, some, head⟩ := temps
    simp only [imp_false] at *
    exact ⟨head (by omega), some (by omega)⟩
  all_goals exact .nothing

/-- Every micro-step of every operation makes one of the stores of `InFlight.Wrote`, or none, or raises one of its operation's
faults. -/
theorem microOf_does (r : InFlight) (s : State) : r.Does s (microOf r.instr r s) := by
  cases hr : r.instr with
  | clkUpdate => exact microClkUpdate_does hr
  | clkRead => exact Sub.andThen_does (clkReadSub_does .nothing _ _) fun _ _ h => h
  | clkReadMs => exact Sub.andThen_does (clkReadSub_does .nothing _ _) fun _ _ h => h
  | tckCheck t => exact microTckCheck_does hr
  | tckReset t => exact microTckReset_does hr
  | timePast => exact .nothing
  | chWrite c => exact microChWrite_does hr
  | chRead c =>
    refine microChRead_does (by simp [hr, Instr.drains]) (by simp [hr, faultsOf]) fun x h => ?_
    simpa only [State.tempsOk, hr] using h.2.2.2
  | chPeek c =>
    exact Sub.andThen_does (chPeekSub_does .nothing (by simp [hr, faultsOf]) _ _) fun _ _ h => h
  | chDiscard c => exact microChDiscard_does hr
  | chClear c => exact microChClear_does hr
  | chFull c => exact microCursors_does
  | chEmpty c => exact microCursors_does
  | lnkRead k =>
    refine microChRead_does (by simp [hr, Instr.drains]) (by simp [hr, faultsOf]) fun x h => ?_
    simpa only [State.tempsOk, hr] using h.2.2.2
  | lnkWrite k => exact microLnkWrite_does hr
  | lnkRxEmpty k => exact microCursors_does
  | lnkRxFull k => exact microCursors_does
  | lnkTxEmpty k => exact microCursors_does
  | lnkTxFull k => exact microCursors_does
  | lnkClear k => exact microLnkClear_does hr
  | isrRx k => exact microIsrRx_does hr
  | isrTxDone k => exact microIsrTxDone_does hr
  | isrErrWarn k => exact microIsrErr_does hr
  | isrErrOvf k => exact microIsrErr_does hr
  | isrErrWake k => exact microIsrErr_does hr
  | isrErrPassive k => exact microIsrErr_does hr
  | isrErrArb k => exact microIsrErr_does hr
  | isrErrBus k => exact microIsrErr_does hr

end

end Sys2Proof.Machine

namespace Sys2Proof.Machine

/-! ## From one store to a whole operation and to a step -/

/-- No store touches a field outside the registers and the peripherals. -/
theorem InFlight.Wrote.sameOuter {r : InFlight} {s t : State} (h : r.Wrote s t) : s.SameOuter t := by
  cases h <;> simp

/-- `t` agrees with `s` in the parameters, the registers and the peripherals. -/
structure State.SameRegs (s t : State) : Prop where
  cfg : t.cfg = s.cfg
  slot0 : t.slot0 = s.slot0
  slot1 : t.slot1 = s.slot1
  idx : t.idx = s.idx
  expiry : t.expiry = s.expiry
  chans : t.chans = s.chans
  txState : t.txState = s.txState
  hw : t.hw = s.hw

section
variable (s : State)

theorem State.sameRegs_hold (x : Ctx) (r : InFlight) : s.SameRegs (s.hold x r) := by constructor <;> rfl
theorem State.sameRegs_leave (x : Ctx) (res : Result) : s.SameRegs (s.leave x res) := by constructor <;> rfl
theorem State.sameRegs_enter (i : Instr) : s.SameRegs (s.enter i) := by constructor <;> rfl
theorem State.sameRegs_refuse (code : RefusalCode) : s.SameRegs (s.refuse code) := by constructor <;> rfl
theorem State.sameRegs_request (req : Request) : s.SameRegs { s with req := req } := by constructor <;> rfl
theorem State.sameRegs_script (rest : List Move) : s.SameRegs { s with script := rest } := by constructor <;> rfl

end

/-- A micro-step of the machine is one store of `InFlight.Wrote`, and the operation goes on with the same opcode and operands or
leaves. -/
theorem State.microStep_does {s t : State} {x : Ctx} {r : InFlight} (h : s.microStep (microOf r.instr) x r = .next t) :
    ∃ s', s.SameOuter s' ∧ r.Wrote s s' ∧
      ((∃ r', microOf r.instr r s = .goto r' s' ∧ r'.instr = r.instr ∧ r'.arg0 = r.arg0 ∧ t = s'.hold x r') ∨
        (∃ res, microOf r.instr r s = .done res s' ∧ t = s'.leave x res)) := by
  have does := microOf_does r s
  obtain ⟨s', houter, ⟨r', hm, hi, h0, -, rfl⟩ | ⟨res, hm, rfl⟩⟩ := State.microStep_cases h <;> rw [hm] at does
  · exact ⟨s', houter, does, .inl ⟨r', hm, hi, h0, rfl⟩⟩
  · exact ⟨s', houter, does, .inr ⟨res, hm, rfl⟩⟩

theorem State.runMicro_keeps {P : State → Prop} {i : Instr} {x : Ctx} {n : Nat} {s t : State}
    (outer : ∀ u v, u.SameRegs v → u.tau ≤ v.tau → P u → P v)
    (store : ∀ (r : InFlight) u v, r.instr = i → u.cfg = s.cfg → r.Wrote u v → P u → P v)
    (hi : ∀ r, s.inflight.get x = some r → r.instr = i) (h : State.runMicro (microOf i) x n s = .next t) (hs : P s) :
    P t := by
  have keep : ∀ u r v, (P u ∧ u.cfg = s.cfg ∧ ∀ q, u.inflight.get x = some q → q.instr = i) →
      u.inflight.get x = some r → u.microStep (microOf i) x r = .next v →
      (P v ∧ v.cfg = s.cfg ∧ ∀ q, v.inflight.get x = some q → q.instr = i) := by
    rintro u r v ⟨hu, hcfg, hi⟩ hr hm
    obtain rfl := hi r hr
    obtain ⟨u', houter, hw, ⟨r', -, hr', -, rfl⟩ | ⟨res, -, rfl⟩⟩ := State.microStep_does hm
    · exact ⟨outer _ _ (u'.sameRegs_hold x r') le_rfl (store r u u' rfl hcfg hw hu), houter.cfg.trans hcfg,
        by simp [hr']⟩
    · exact ⟨outer _ _ (u'.sameRegs_leave x res) le_rfl (store r u u' rfl hcfg hw hu), houter.cfg.trans hcfg, by simp⟩
  exact (State.runMicro_induction keep ⟨hs, rfl, hi⟩ h).1

/-- A property of the parameters, the registers and the peripherals that the stores of an operation keep holds after the whole
operation. -/
theorem exec_keeps {P : State → Prop} {i : Instr} {s t : State} (h : exec i s = .next t)
    (outer : ∀ u v, u.SameRegs v → u.tau ≤ v.tau → P u → P v)
    (store : ∀ (r : InFlight) u v, r.instr = i → u.cfg = s.cfg → r.Wrote u v → P u → P v) (hs : P s) : P t := by
  obtain ⟨code, -, rfl⟩ | ⟨-, hrun⟩ := exec_next h
  · exact outer _ _ (s.sameRegs_refuse code) le_rfl hs
  · exact State.runMicro_keeps (s := s.enter i) outer store (by simp) hrun (outer _ _ (s.sameRegs_enter i) le_rfl hs)

/-- A property of the parameters, the registers, the peripherals and of time passing holds after a step if every store keeps it
and every move of a peripheral does. -/
theorem step_keeps {P : State → Prop} {s t : State} (h : step s = .next t)
    (outer : ∀ u v, u.SameRegs v → u.tau ≤ v.tau → P u → P v) (store : ∀ (r : InFlight) u v, r.Wrote u v → P u → P v)
    (env : ∀ u k f, P u → P (u.onPeripheral k f)) (hs : P s) : P t := by
  have advance {u : State} (hu : P u) (ha : u.advance = .next t) : P t := by
    have micro {x : Ctx} {r : InFlight} (hm : u.microStep (microOf r.instr) x r = .next t) : P t := by
      obtain ⟨u', -, hw, ⟨r', -, -, -, rfl⟩ | ⟨res, -, rfl⟩⟩ := State.microStep_does hm
      · exact outer _ _ (u'.sameRegs_hold x r') le_rfl (store r u u' hw hu)
      · exact outer _ _ (u'.sameRegs_leave x res) le_rfl (store r u u' hw hu)
    obtain ⟨r, -, hm⟩ | ⟨-, r, -, hm⟩ | ⟨-, -, rfl⟩ := State.advance_cases ha
    · exact micro hm
    · exact micro hm
    · exact hu
  have taken (rest : List Move) : P { s with script := rest } := outer _ _ (s.sameRegs_script rest) le_rfl hs
  have asked (rest : List Move) (req : Request) : P { s with script := rest, req := req } :=
    outer { s with script := rest } _ (State.sameRegs_request _ req) le_rfl (taken rest)
  obtain ha | ⟨rest, -, ha | ⟨whole, req, i, hstart, -⟩ | ⟨req, rfl⟩ | rfl | ⟨us, rfl⟩ | ⟨k, f, rfl⟩⟩ := step_cases h
  · exact advance hs ha
  · exact advance (taken rest) ha
  · rcases State.start_next hstart with he | hissue
    · exact exec_keeps he outer (fun r u v _ _ => store r u v) (asked rest req)
    · obtain ⟨code, -, rfl⟩ | ⟨-, rfl⟩ := State.issue_next hissue
      · exact outer _ _ (State.sameRegs_refuse _ code) le_rfl (asked rest req)
      · exact outer _ _ (State.sameRegs_enter _ i) le_rfl (asked rest req)
  · exact outer _ _ (State.sameRegs_refuse _ _) le_rfl (asked rest req)
  · exact taken rest
  · exact outer s _ (by constructor <;> rfl) (Nat.le_add_right _ _) hs
  · exact env _ k f (taken rest)

/-- Settles O55. -/
theorem stepKeepsParameters : Obligations.StepKeepsParameters := fun s _ h =>
  step_keeps (P := fun u => u.cfg = s.cfg) h (fun _ _ hreg _ hu => hreg.cfg.trans hu)
    (fun _ _ _ hw hu => hw.sameOuter.cfg.trans hu) (fun _ _ _ hu => hu) rfl

/-- Settles O56. -/
theorem timeNeverRunsBack : Obligations.TimeNeverRunsBack := fun s _ h =>
  step_keeps (P := fun u => s.tau ≤ u.tau) h (fun _ _ _ htau hu => hu.trans htau)
    (fun _ _ _ hw hu => hu.trans_eq hw.sameOuter.tau.symm) (fun _ _ _ hu => hu) le_rfl

theorem State.setTx_tx (s : State) (k : Nat) (v : TxState) (m : Nat) :
    (s.setTx k v).tx m = if k = m ∧ m < s.txState.length then v else s.tx m := getD_set ..

/-- A micro-step makes Busy only the links that keep a transmit state (R220). -/
theorem InFlight.Wrote.keeps_fireAndForgetIdle {r : InFlight} {s t : State} (h : r.Wrote s t)
    (hs : s.fireAndForgetIdle) : t.fireAndForgetIdle := by
  cases h
  case tx k v who mode =>
    intro m hm
    rw [State.setTx_tx]
    split
    · next hk =>
      obtain ⟨rfl, -⟩ := hk
      cases v with
      | idle => rfl
      | busy => exact absurd (mode rfl) (by simp [show s.cfg.txMode k = _ from hm])
    · exact hs m hm
  all_goals simpa [State.fireAndForgetIdle] using hs

/-- Settles O54. -/
theorem stepKeepsFireAndForgetIdle : Obligations.StepKeepsFireAndForgetIdle := fun _ _ hs h =>
  step_keeps h (fun u v hreg _ hu => by simpa [State.fireAndForgetIdle, State.tx, hreg.cfg, hreg.txState] using hu)
    (fun _ _ _ hw => hw.keeps_fireAndForgetIdle) (fun _ _ _ hu => hu) hs

/-! ## Who writes what (10_state.md R54, R20, R40) -/

section
variable {i : Instr} {s t : State}

theorem exec_cfg (h : exec i s = .next t) : t.cfg = s.cfg :=
  exec_keeps (P := fun u => u.cfg = s.cfg) h (fun _ _ hreg _ hu => hreg.cfg.trans hu)
    (fun _ _ _ _ _ hw hu => hw.sameOuter.cfg.trans hu) rfl

theorem exec_clock (h : exec i s = .next t) (hi : i ≠ .clkUpdate) :
    t.slot0 = s.slot0 ∧ t.slot1 = s.slot1 ∧ t.idx = s.idx := by
  refine exec_keeps (P := fun u => u.slot0 = s.slot0 ∧ u.slot1 = s.slot1 ∧ u.idx = s.idx) h
    (fun u v hreg _ hu => by rwa [hreg.slot0, hreg.slot1, hreg.idx]) (fun r u v hr _ hw hu => ?_) ⟨rfl, rfl, rfl⟩
  cases hw
  case epoch who _ | last who _ | publish who _ => exact absurd (hr.symm.trans who) hi
  all_goals simpa using hu

theorem exec_expiry (h : exec i s = .next t) (hi : ∀ n, i ≠ .tckCheck n ∧ i ≠ .tckReset n) : t.expiry = s.expiry := by
  refine exec_keeps (P := fun u => u.expiry = s.expiry) h (fun _ _ hreg _ hu => hreg.expiry.trans hu)
    (fun r u v hr _ hw hu => ?_) rfl
  cases hw
  case expiry n _ who => exact absurd who (by simp [hr, hi n])
  all_goals simpa using hu

theorem exec_txState (h : exec i s = .next t) (hi : ∀ k, i ≠ .lnkWrite k ∧ i ≠ .lnkClear k ∧ i ≠ .isrTxDone k) :
    t.txState = s.txState := by
  refine exec_keeps (P := fun u => u.txState = s.txState) h (fun _ _ hreg _ hu => hreg.txState.trans hu)
    (fun r u v hr _ hw hu => ?_) rfl
  cases hw
  case tx k _ who _ => exact absurd who (by simp [hr, hi k])
  all_goals simpa using hu

theorem exec_hw (h : exec i s = .next t) (hi : ∀ k, i ≠ .lnkWrite k ∧ i ≠ .isrTxDone k ∧ i ≠ .isrRx k) :
    t.hw = s.hw := by
  refine exec_keeps (P := fun u => u.hw = s.hw) h (fun _ _ hreg _ hu => hreg.hw.trans hu)
    (fun r u v hr _ hw hu => ?_) rfl
  cases hw
  case peripheral k _ who _ => exact absurd who (by simp [hr, hi k])
  all_goals simpa using hu

theorem State.head_congr {u v : State} (h : v.chans = u.chans) (c : Nat) : v.head c = u.head c := by
  unfold State.head State.chan; rw [h]

theorem State.tail_congr {u v : State} (h : v.chans = u.chans) (c : Nat) : v.tail c = u.tail c := by
  unfold State.tail State.chan; rw [h]

theorem State.memRead_congr {u v : State} (h : v.chans = u.chans) (c n : Nat) : v.memRead c n = u.memRead c n := by
  unfold State.memRead State.chan; rw [h]

theorem exec_head (h : exec i s = .next t) {c : Nat} (hc : c ∉ i.drains s.cfg) (hclear : c ∉ i.clears s.cfg) :
    t.head c = s.head c := by
  refine exec_keeps (P := fun u => u.head c = s.head c) h (fun u v hreg _ hu => (State.head_congr hreg.chans c).trans hu)
    (fun r u v hr hcfg hw hu => ?_) rfl
  subst hr
  cases hw
  case pop d who _ =>
    have hne : c ≠ d := by rintro rfl; exact hc (hcfg ▸ who)
    rwa [State.head, State.setHead_chan_ne _ _ hne]
  case clearHead d who =>
    have hne : c ≠ d := by rintro rfl; exact hclear (hcfg ▸ who)
    rwa [State.head, State.setHead_chan_ne _ _ hne]
  all_goals simpa using hu

theorem exec_tail (h : exec i s = .next t) {c : Nat} (hc : c ∉ i.fills s.cfg) (hclear : c ∉ i.clears s.cfg) :
    t.tail c = s.tail c := by
  refine exec_keeps (P := fun u => u.tail c = s.tail c) h (fun u v hreg _ hu => (State.tail_congr hreg.chans c).trans hu)
    (fun r u v hr hcfg hw hu => ?_) rfl
  subst hr
  cases hw
  case push d who _ =>
    have hne : c ≠ d := by rintro rfl; exact hc (hcfg ▸ who)
    rwa [State.tail, State.setTail_chan_ne _ _ hne]
  case clearTail d who =>
    have hne : c ≠ d := by rintro rfl; exact hclear (hcfg ▸ who)
    rwa [State.tail, State.setTail_chan_ne _ _ hne]
  all_goals simpa using hu

theorem exec_memRead (h : exec i s = .next t) {c : Nat} (hc : c ∉ i.fills s.cfg) (n : Nat) :
    t.memRead c n = s.memRead c n := by
  refine exec_keeps (P := fun u => u.memRead c n = s.memRead c n) h
    (fun u v hreg _ hu => (State.memRead_congr hreg.chans c n).trans hu) (fun r u v hr hcfg hw hu => ?_) rfl
  subst hr
  cases hw
  case fill d v who _ _ =>
    have hne : c ≠ d := by rintro rfl; exact hc (hcfg ▸ who)
    rwa [State.memWrite_memRead_ne _ _ (.inl hne)]
  all_goals simpa using hu

/-- A whole operation leaves every channel it does not use as it was (R40). -/
theorem exec_chan (h : exec i s = .next t) {c : Nat} (hc : c ∉ i.uses s.cfg) : t.chan c = s.chan c := by
  refine exec_keeps (P := fun u => u.chan c = s.chan c) h
    (fun u v hreg _ hu => by unfold State.chan at *; rwa [hreg.chans]) (fun r u v hr hcfg hw hu => ?_) rfl
  subst hr
  have apart {d : Nat} (hd : d ∈ r.instr.uses u.cfg) : c ≠ d := by rintro rfl; exact hc (hcfg ▸ hd)
  cases hw
  case fill d _ who _ _ => rwa [State.memWrite_chan_ne _ _ _ (apart (Instr.fills_subset_uses _ _ who))]
  case push d who _ => rwa [State.setTail_chan_ne _ _ (apart (Instr.fills_subset_uses _ _ who))]
  case pop d who _ => rwa [State.setHead_chan_ne _ _ (apart (Instr.drains_subset_uses _ _ who))]
  case clearHead d who => rwa [State.setHead_chan_ne _ _ (apart (Instr.clears_subset_uses _ _ who))]
  case clearTail d who => rwa [State.setTail_chan_ne _ _ (apart (Instr.clears_subset_uses _ _ who))]
  all_goals simpa using hu

/-- A whole operation leaves every ticker, transmit state and peripheral but that of its own number as it was (R20). -/
theorem exec_other_number (h : exec i s = .next t) {n : Nat} (hn : n ≠ i.inst) :
    t.expiry.getD n 0 = s.expiry.getD n 0 ∧ t.tx n = s.tx n ∧ t.peripheral n = s.peripheral n := by
  refine exec_keeps
    (P := fun u => u.expiry.getD n 0 = s.expiry.getD n 0 ∧ u.tx n = s.tx n ∧ u.peripheral n = s.peripheral n) h
    (fun u v hreg _ hu => by simpa only [State.tx, State.peripheral, hreg.expiry, hreg.txState, hreg.hw] using hu)
    (fun r u v hr _ hw hu => ?_) ⟨rfl, rfl, rfl⟩
  subst hr
  cases hw
  case expiry m v who =>
    have hm : m ≠ n := by rcases who with who | who <;> rw [who] at hn <;> exact Ne.symm hn
    simpa [getD_set, hm] using hu
  case tx k v who _ =>
    have hk : k ≠ n := by rcases who with who | who | who <;> rw [who] at hn <;> exact Ne.symm hn
    simpa [State.setTx_tx, hk] using hu
  case peripheral k p who _ =>
    have hk : k ≠ n := by rcases who with who | who | who <;> rw [who] at hn <;> exact Ne.symm hn
    simpa [State.setPeripheral_peripheral, hk] using hu
  all_goals simpa using hu

/-- A property of the fields no micro-step writes that entry, return and refusal keep holds after a whole operation. -/
theorem exec_outer (h : exec i s = .next t) : t.tau = s.tau ∧ t.script = s.script ∧ t.req = s.req := by
  obtain ⟨code, -, rfl⟩ | ⟨-, hrun⟩ := exec_next h
  · exact ⟨rfl, rfl, rfl⟩
  · refine State.runMicro_induction (P := fun u => u.tau = s.tau ∧ u.script = s.script ∧ u.req = s.req)
      (fun u r v hu _ hm => ?_) ?_ hrun
    case refine_2 => exact ⟨rfl, rfl, rfl⟩
    obtain ⟨u', houter, ⟨r', -, -, -, -, rfl⟩ | ⟨res, -, rfl⟩⟩ := State.microStep_cases hm <;>
      simpa [houter.tau, houter.script, houter.req] using hu

end

/-- Settles O60. -/
theorem operationsAreLocal : Obligations.OperationsAreLocal := fun _ _ _ h =>
  ⟨fun _ hc => exec_chan h hc, fun _ hn => exec_other_number h hn⟩

theorem Instr.mem_drains_or_clears {p : Params} {i : Instr} {c : Nat} (h : c ∈ i.drains p ∨ c ∈ i.clears p) :
    i = .chRead c ∨ i = .chDiscard c ∨ i = .chClear c ∨
      ∃ k, (i = .lnkRead k ∧ c = p.rx k) ∨ (i = .isrTxDone k ∧ c = p.tx k) ∨
        (i = .lnkClear k ∧ (c = p.rx k ∨ c = p.tx k)) := by
  cases i
  case lnkClear k =>
    rcases h with h | h
    · cases h
    · rcases LinkCfg.mem_owned.mp h with ⟨-, hc⟩ | ⟨-, hc⟩
      · exact .inr (.inr (.inr ⟨k, .inr (.inr ⟨rfl, .inl hc.symm⟩)⟩))
      · exact .inr (.inr (.inr ⟨k, .inr (.inr ⟨rfl, .inr hc.symm⟩)⟩))
  all_goals simp_all [Instr.drains, Instr.clears]

theorem Instr.mem_fills {p : Params} {i : Instr} {c : Nat} (h : c ∈ i.fills p) :
    i = .chWrite c ∨ ∃ k, (i = .lnkWrite k ∧ c = p.tx k) ∨
      (c = p.rx k ∧ (i = .isrRx k ∨ ∃ kind, i = EventKind.handler k (.err kind))) := by
  cases i
  case isrErrWarn k => exact .inr ⟨k, .inr ⟨by simpa [Instr.fills] using h, .inr ⟨.warning, rfl⟩⟩⟩
  case isrErrOvf k => exact .inr ⟨k, .inr ⟨by simpa [Instr.fills] using h, .inr ⟨.dataOverflow, rfl⟩⟩⟩
  case isrErrWake k => exact .inr ⟨k, .inr ⟨by simpa [Instr.fills] using h, .inr ⟨.wakeUp, rfl⟩⟩⟩
  case isrErrPassive k => exact .inr ⟨k, .inr ⟨by simpa [Instr.fills] using h, .inr ⟨.errorPassive, rfl⟩⟩⟩
  case isrErrArb k => exact .inr ⟨k, .inr ⟨by simpa [Instr.fills] using h, .inr ⟨.arbitrationLost, rfl⟩⟩⟩
  case isrErrBus k => exact .inr ⟨k, .inr ⟨by simpa [Instr.fills] using h, .inr ⟨.busError, rfl⟩⟩⟩
  case isrRx k => exact .inr ⟨k, .inr ⟨by simpa [Instr.fills] using h, .inl rfl⟩⟩
  case lnkWrite k => exact .inr ⟨k, .inl ⟨rfl, by simpa [Instr.fills] using h⟩⟩
  all_goals simp_all [Instr.fills]

theorem Instr.mem_fills_or_clears {p : Params} {i : Instr} {c : Nat} (h : c ∈ i.fills p ∨ c ∈ i.clears p) :
    i = .chWrite c ∨ i = .chClear c ∨
      ∃ k, (i = .lnkWrite k ∧ c = p.tx k) ∨ (i = .lnkClear k ∧ (c = p.rx k ∨ c = p.tx k)) ∨
        (c = p.rx k ∧ (i = .isrRx k ∨ ∃ kind, i = EventKind.handler k (.err kind))) := by
  rcases h with h | h
  · obtain h | ⟨k, h | h⟩ := Instr.mem_fills h
    · exact .inl h
    · exact .inr (.inr ⟨k, .inl h⟩)
    · exact .inr (.inr ⟨k, .inr (.inr h)⟩)
  · cases i
    case chClear d => exact .inr (.inl (by simpa [Instr.clears, eq_comm] using h))
    case lnkClear k =>
      rcases LinkCfg.mem_owned.mp h with ⟨-, hc⟩ | ⟨-, hc⟩
      · exact .inr (.inr ⟨k, .inr (.inl ⟨rfl, .inl hc.symm⟩)⟩)
      · exact .inr (.inr ⟨k, .inr (.inl ⟨rfl, .inr hc.symm⟩)⟩)
    all_goals cases h

/-- Settles O58: each register outside an operation's stores is kept, so one that changed is among them. -/
theorem registerWriters : Obligations.RegisterWriters := by
  intro s t i h
  refine ⟨exec_clock h, exec_expiry h, exec_txState h, exec_hw h, fun c hc => ?_, fun c hc => ?_, fun c n hc => ?_,
    exec_outer h⟩
  · refine Instr.mem_drains_or_clears (by_contra fun hn => ?_)
    exact hc (exec_head h (fun h1 => hn (.inl h1)) fun h2 => hn (.inr h2))
  · refine Instr.mem_fills_or_clears (by_contra fun hn => ?_)
    exact hc (exec_tail h (fun h1 => hn (.inl h1)) fun h2 => hn (.inr h2))
  · exact Instr.mem_fills (by_contra fun h1 => hc (exec_memRead h h1 n))

/-! ## The two contexts (60_exceptions.md R261, R262, R265) -/

/-- A micro-step in `IRQ` leaves the foreground's record and port. -/
theorem State.microStep_irq_fg {s t : State} {i : Instr} {r : InFlight} (h : s.microStep (microOf i) .irq r = .next t) :
    t.inflight.fg = s.inflight.fg ∧ t.result.fg = s.result.fg := by
  obtain ⟨s', houter, ⟨r', -, -, -, -, rfl⟩ | ⟨res, -, rfl⟩⟩ := State.microStep_cases h <;>
    simp [houter.inflight, houter.result]

/-- Settles O13. -/
theorem handlerKeepsForegroundRecord : Obligations.HandlerKeepsForegroundRecord := by
  intro s t i hx h
  obtain ⟨code, -, rfl⟩ | ⟨-, hrun⟩ := exec_next h
  · simp [hx]
  · rw [hx] at hrun
    refine State.runMicro_induction
      (P := fun u => u.inflight.fg = s.inflight.fg ∧ u.result.fg = s.result.fg) (fun u r v hu _ hm => ?_)
      (by simp [hx]) hrun
    obtain ⟨hf, hr⟩ := State.microStep_irq_fg hm
    exact ⟨hf.trans hu.1, hr.trans hu.2⟩

/-- While `IRQ` runs an operation a step is one of its micro-steps, or a change of the environment (R261). -/
theorem step_busy_irq {s t : State} {r : InFlight} (hr : s.inflight.irq = some r) (h : step s = .next t) :
    (∃ rest, State.microStep { s with script := rest } (microOf r.instr) .irq r = .next t) ∨
      (t.inflight = s.inflight ∧ t.result = s.result) := by
  have advance (rest : List Move) :
      State.advance { s with script := rest } = State.microStep { s with script := rest } (microOf r.instr) .irq r :=
    State.advance_running (x := .irq) hr (by simp)
  have busy (x : Ctx) : s.ready x = false := by cases x <;> simp [State.ready, hr]
  cases hs : s.script with
  | nil =>
    have hself : { s with script := [] } = s := by rw [← hs]
    refine .inl ⟨[], ?_⟩
    rw [← advance, hself]
    simpa [step, hs] using h
  | cons m rest =>
    have waits (ha : s.advance = .next t) : ∃ rest, State.microStep { s with script := rest } (microOf r.instr) .irq r = .next t :=
      ⟨s.script, (advance s.script).symm.trans ha⟩
    rw [step_move hs] at h
    cases m with
    | request whole x w a0 a1 => exact .inl (waits (by simpa [State.move, busy] using h))
    | event whole k ev => exact .inl (waits (by simpa [State.move, busy] using h))
    | advance => exact .inl ⟨rest, (advance rest).symm.trans h⟩
    | elapse us | arrive k f | answer k b | transmitting k b =>
      cases h
      exact .inr ⟨rfl, rfl⟩

/-- Settles O12. -/
theorem foregroundWaitsForInterrupt : Obligations.ForegroundWaitsForInterrupt := by
  intro s t r hr h
  obtain ⟨rest, hm⟩ | ⟨hf, hres⟩ := step_busy_irq hr h
  · exact State.microStep_irq_fg (s := { s with script := rest }) hm
  · exact ⟨by rw [hf], by rw [hres]⟩

end Sys2Proof.Machine

namespace Sys2Proof

/-- Only the foreground clears a channel (R266). -/
theorem Instr.admitted.clears_fg {p : Params} {x : Ctx} {i : Instr} {c : Nat} (h : i.admitted p x)
    (hc : c ∈ i.clears p) : x = .fg := by
  obtain ⟨-, role⟩ := h
  cases i <;> simp_all [Instr.clears, Instr.portAllows, Instr.event]

end Sys2Proof

namespace Sys2Proof.Machine

/-! ## What a micro-step does to one channel (42_channel.md R168, R169) -/

theorem State.setHead_head (s : State) (c v d : Nat) :
    (s.setHead c v).head d = if c = d ∧ d < s.chans.length then v else s.head d := by
  unfold State.head; rw [State.setHead_chan]; split <;> rfl

theorem State.setTail_tail (s : State) (c v d : Nat) :
    (s.setTail c v).tail d = if c = d ∧ d < s.chans.length then v else s.tail d := by
  unfold State.tail; rw [State.setTail_chan]; split <;> rfl

theorem State.shaped.chans_length {s : State} (h : s.shaped) : s.chans.length = s.cfg.nCh := h.2.1

theorem State.inFlightOk.admitted {s : State} {x : Ctx} {r : InFlight} (h : s.inFlightOk x r) :
    r.instr.admitted s.cfg x := ⟨h.1, h.2.1⟩

theorem State.inFlightOk.tempsOk {s : State} {x : Ctx} {r : InFlight} (h : s.inFlightOk x r) : s.tempsOk r := h.2.2.2

theorem State.inFlightOk.one_le {s : State} {x : Ctx} {r : InFlight} (h : s.inFlightOk x r) : 1 ≤ r.ustep := h.2.2.1

/-- What one store does to the cursors of channel `c`: nothing; the producer's `tail` goes on, when there is room; the consumer's
`head` goes on, when there is an element; or a clear sets one of them to 0. -/
inductive CursorMove (i : Instr) (c : Nat) (s t : State) : Prop
  | keeps (head : t.head c = s.head c) (tail : t.tail c = s.tail c)
  | pushes (who : c ∈ i.fills s.cfg) (room : s.occupancy c < s.cfg.cap c) (head : t.head c = s.head c)
    (tail : t.tail c = cursorNext (s.cfg.cap c) (s.tail c))
  | pops (who : c ∈ i.drains s.cfg) (some : s.tail c ≠ s.head c)
    (head : t.head c = cursorNext (s.cfg.cap c) (s.head c)) (tail : t.tail c = s.tail c)
  | clears (who : c ∈ i.clears s.cfg) (head : t.head c = 0 ∨ t.head c = s.head c)
    (tail : t.tail c = 0 ∨ t.tail c = s.tail c)

theorem InFlight.Wrote.cursorMove {r : InFlight} {s t : State} {x : Ctx} {c : Nat} (h : r.Wrote s t)
    (ok : s.inFlightOk x r) (hlen : c < s.chans.length) (hin : s.cursorsIn c) : CursorMove r.instr c s t := by
  cases h
  case push d who room =>
    by_cases hd : d = c
    · subst hd
      obtain ⟨htail, hroom⟩ := (room x ok).room
      exact .pushes who hroom (by simp) (by simp [State.setTail_tail, hlen, htail])
    · exact .keeps (by simp) (by simp [State.setTail_tail, hd])
  case pop d who some =>
    by_cases hd : d = c
    · subst hd
      obtain ⟨hhead, hsome⟩ := some x ok hin
      exact .pops who hsome (by simp [State.setHead_head, hlen, hhead]) (by simp)
    · exact .keeps (by simp [State.setHead_head, hd]) (by simp)
  case clearHead d who =>
    by_cases hd : d = c
    · subst hd
      exact .clears who (.inl (by simp [State.setHead_head, hlen])) (.inr (by simp))
    · exact .keeps (by simp [State.setHead_head, hd]) (by simp)
  case clearTail d who =>
    by_cases hd : d = c
    · subst hd
      exact .clears who (.inr (by simp)) (.inl (by simp [State.setTail_tail, hlen]))
    · exact .keeps (by simp) (by simp [State.setTail_tail, hd])
  all_goals exact .keeps (by simp) (by simp)

namespace CursorMove

variable {i : Instr} {c : Nat} {s t : State}

/-- Both cursors stay in range (R36, R37). -/
theorem cursorsIn (h : CursorMove i c s t) (hcfg : t.cfg = s.cfg) (hcap : 1 ≤ s.cfg.cap c) (hin : s.cursorsIn c) :
    t.cursorsIn c := by
  have hnext (v : Nat) : cursorNext (s.cfg.cap c) v < curMod (s.cfg.cap c) := cursorNext_lt hcap v
  have hzero : 0 < curMod (s.cfg.cap c) := by unfold curMod; omega
  obtain ⟨hh, ht⟩ := hin
  unfold State.cursorsIn
  rw [hcfg]
  rcases h with ⟨head, tail⟩ | ⟨-, -, head, tail⟩ | ⟨-, -, head, tail⟩ | ⟨-, head, tail⟩
  · exact ⟨head ▸ hh, tail ▸ ht⟩
  · exact ⟨head ▸ hh, tail ▸ hnext _⟩
  · exact ⟨head ▸ hnext _, tail ▸ ht⟩
  · exact ⟨head.elim (· ▸ hzero) (· ▸ hh), tail.elim (· ▸ hzero) (· ▸ ht)⟩

/-- The producer's store adds an element, the consumer's store removes one, and otherwise the occupancy stays. -/
theorem occupancy (h : CursorMove i c s t) (hclear : c ∉ i.clears s.cfg) (hcfg : t.cfg = s.cfg)
    (hcap : 1 ≤ s.cfg.cap c) (hin : s.cursorsIn c) :
    t.occupancy c = s.occupancy c ∨
      (c ∈ i.fills s.cfg ∧ s.occupancy c < s.cfg.cap c ∧ t.occupancy c = s.occupancy c + 1) ∨
      (c ∈ i.drains s.cfg ∧ t.occupancy c + 1 = s.occupancy c) := by
  obtain ⟨hh, ht⟩ := hin
  unfold State.occupancy
  rw [hcfg]
  rcases h with ⟨head, tail⟩ | ⟨who, room, head, tail⟩ | ⟨who, some, head, tail⟩ | ⟨who, -, -⟩
  · exact .inl (by rw [head, tail])
  · exact .inr (.inl ⟨who, room, by rw [head, tail, occ_cursorNext_tail hcap ht hh room]⟩)
  · refine .inr (.inr ⟨who, ?_⟩)
    rw [head, tail, occ_cursorNext_head hcap ht hh fun h0 => some ((occ_eq_zero_iff ht hh).mp h0)]
  · exact absurd who hclear

theorem occupancy_le (h : CursorMove i c s t) (hclear : c ∉ i.clears s.cfg) (hcfg : t.cfg = s.cfg)
    (hcap : 1 ≤ s.cfg.cap c) (hin : s.cursorsIn c) (hocc : s.occupancy c ≤ s.cfg.cap c) :
    t.occupancy c ≤ t.cfg.cap c := by
  rw [hcfg]
  rcases h.occupancy hclear hcfg hcap hin with h | ⟨-, h⟩ | ⟨-, h⟩ <;> omega

/-- What the producer of a channel knows outlives every store of another context to it: that can only remove elements (R169). -/
theorem writerOk (h : CursorMove i c s t) (hfill : c ∉ i.fills s.cfg) (hclear : c ∉ i.clears s.cfg) (hcfg : t.cfg = s.cfg)
    (hcap : 1 ≤ s.cfg.cap c) (hin : s.cursorsIn c) {j : Nat} {w : Temps} (hw : s.writerOk c j w) :
    t.writerOk c j w := by
  have htail : t.tail c = s.tail c := by
    rcases h with ⟨-, tail⟩ | ⟨who, -⟩ | ⟨-, -, -, tail⟩ | ⟨who, -⟩
    · exact tail
    · exact absurd who hfill
    · exact tail
    · exact absurd who hclear
  have hocc : t.occupancy c ≤ s.occupancy c := by
    rcases h.occupancy hclear hcfg hcap hin with h | ⟨who, -⟩ | ⟨-, h⟩
    · omega
    · exact absurd who hfill
    · omega
  obtain ⟨hhead, htemp, hroom⟩ := hw
  unfold State.writerOk
  rw [hcfg, htail]
  exact ⟨fun hj => ⟨(hhead hj).1, (hhead hj).2.1, hocc.trans (hhead hj).2.2⟩, htemp, hroom⟩

/-- What the consumer of a channel knows outlives every store of another context to it: that can only add elements (R169). -/
theorem readerOk (h : CursorMove i c s t) (hdrain : c ∉ i.drains s.cfg) (hclear : c ∉ i.clears s.cfg)
    (hcfg : t.cfg = s.cfg) (hcap : 1 ≤ s.cfg.cap c) (hin : s.cursorsIn c) {j : Nat} {w : Temps}
    (hw : s.readerOk c j w) : t.readerOk c j w := by
  have hhead : t.head c = s.head c := by
    rcases h with ⟨head, -⟩ | ⟨-, -, head, -⟩ | ⟨who, -⟩ | ⟨who, -⟩
    · exact head
    · exact head
    · exact absurd who hdrain
    · exact absurd who hclear
  have hocc : s.occupancy c ≤ t.occupancy c := by
    rcases h.occupancy hclear hcfg hcap hin with h | ⟨-, -, h⟩ | ⟨who, -⟩
    · omega
    · omega
    · exact absurd who hdrain
  obtain ⟨htail, htemp, hsome⟩ := hw
  unfold State.readerOk
  rw [hcfg, hhead]
  exact ⟨fun hj => ⟨(htail hj).1, (htail hj).2.trans hocc⟩, htemp, hsome⟩

end CursorMove

/-- The producer's store of `tail` alone appends what the cell at the write end holds. -/
theorem State.contents_setTail {s : State} {c : Nat} (h : s.channelSound c) (room : s.occupancy c < s.cfg.cap c) :
    (s.setTail c (cursorNext (s.cfg.cap c) (s.tail c))).contents c =
      s.contents c ++ [s.memRead c (s.tail c % s.cfg.cap c)] := by
  obtain ⟨hlen, hcap, -, ⟨hh, ht⟩, -⟩ := h
  have hn := occ_cursorNext_tail hcap ht hh room
  simp only [State.contents, State.setTail_cfg, State.setTail_tail_self _ _ hlen, State.setTail_head,
    State.setTail_memRead, hn, List.range_succ, List.map_append, List.map_cons, List.map_nil, writeCell ht hh]

/-- A store to the write end of a channel with room is outside its contents. -/
theorem State.contents_memWrite {s : State} {c : Nat} (h : s.channelSound c) (room : s.occupancy c < s.cfg.cap c)
    (v : Elem) : (s.memWrite c (s.tail c % s.cfg.cap c) v).contents c = s.contents c := by
  obtain ⟨-, -, -, ⟨hh, ht⟩, -⟩ := h
  unfold State.occupancy at room
  simp only [State.contents, State.memWrite_cfg, State.memWrite_tail, State.memWrite_head]
  refine List.map_congr_left fun i hi => State.memWrite_memRead_ne s v (.inr ?_)
  have hi := List.mem_range.mp hi
  rw [← writeCell ht hh]
  exact cell_ne hi (by omega)

theorem State.contents_congr {s t : State} {c : Nat} (hcfg : t.cfg = s.cfg) (h : t.chan c = s.chan c) :
    t.contents c = s.contents c := by
  unfold State.contents State.tail State.head State.memRead
  rw [hcfg, h]

/-- One store of an operation that does not clear the channel leaves its contents, appends one element, or removes the oldest. -/
theorem InFlight.Wrote.contents {r : InFlight} {s t : State} {x : Ctx} {c : Nat} (h : r.Wrote s t)
    (ok : s.inFlightOk x r) (hs : s.channelSound c) (hclear : c ∉ r.instr.clears s.cfg) :
    t.contents c = s.contents c ∨ (∃ e, t.contents c = s.contents c ++ [e]) ∨ (∃ e, s.contents c = e :: t.contents c) := by
  have hin : s.cursorsIn c := hs.2.2.2.1
  cases h
  case fill d v who room typed =>
    by_cases hd : c = d
    · subst hd
      obtain ⟨htail, hroom⟩ := (room x ok).room
      rw [htail]
      exact .inl (State.contents_memWrite hs hroom v)
    · exact .inl (State.contents_congr (by simp) (State.memWrite_chan_ne _ _ _ hd))
  case push d who room =>
    by_cases hd : c = d
    · subst hd
      obtain ⟨htail, hroom⟩ := (room x ok).room
      rw [htail]
      exact .inr (.inl ⟨_, State.contents_setTail hs hroom⟩)
    · exact .inl (State.contents_congr (by simp) (State.setTail_chan_ne _ _ hd))
  case pop d who some =>
    by_cases hd : c = d
    · subst hd
      obtain ⟨hhead, hsome⟩ := some x ok hin
      rw [hhead]
      exact .inr (.inr ⟨_, State.contents_remove hs hsome⟩)
    · exact .inl (State.contents_congr (by simp) (State.setHead_chan_ne _ _ hd))
  case clearHead d who =>
    have hd : c ≠ d := by rintro rfl; exact hclear who
    exact .inl (State.contents_congr (by simp) (State.setHead_chan_ne _ _ hd))
  case clearTail d who =>
    have hd : c ≠ d := by rintro rfl; exact hclear who
    exact .inl (State.contents_congr (by simp) (State.setTail_chan_ne _ _ hd))
  all_goals exact .inl (by simp)

/-! ## The operation that runs, in a sound state -/

section
variable {s t : State} {x : Ctx} {r : InFlight} {c : Nat}

/-- The operation held as `r` in `x` has the processor (R261, R262). -/
structure State.Runs (s : State) (x : Ctx) (r : InFlight) : Prop where
  held : s.inflight.get x = some r
  alone : x = .fg → s.inflight.irq = none

/-- A channel that the running operation uses and does not clear is not being cleared (R165). -/
theorem State.Sound.not_clearing (hs : s.Sound) (run : s.Runs x r) (huse : c ∈ r.instr.uses s.cfg)
    (hclear : c ∉ r.instr.clears s.cfg) : c ∉ s.clearing := by
  cases x with
  | irq => exact hs.quiet r run.held c huse
  | fg =>
    have : s.inflight.fg = some r := run.held
    simpa [State.clearing, this] using hclear

/-- A channel that the running operation clears is being cleared. -/
theorem State.Sound.clearing_of_clears (hs : s.Sound) (run : s.Runs x r) (hclear : c ∈ r.instr.clears s.cfg) :
    x = .fg ∧ c ∈ s.clearing := by
  obtain rfl := (hs.flight x r run.held).admitted.clears_fg hclear
  have : s.inflight.fg = some r := run.held
  exact ⟨rfl, by simpa [State.clearing, this] using hclear⟩

theorem State.Sound.channelSound (hs : s.Sound) (hc : c < s.cfg.nCh) (hclear : c ∉ s.clearing) : s.channelSound c :=
  ⟨hs.shape.chans_length ▸ hc, Params.one_le_cap hs.params hc, hs.shape.2.2.2.2 c hc, hs.cursors c hc,
    hs.occupied c hc hclear⟩

/-- The machine's own micro-step is that of the operation that runs, or nothing. -/
theorem State.advance_runs (h : s.advance = .next t) :
    t = s ∨ ∃ x r, s.Runs x r ∧ s.microStep (microOf r.instr) x r = .next t := by
  obtain ⟨r, hr, hm⟩ | ⟨hirq, r, hr, hm⟩ | ⟨-, -, rfl⟩ := State.advance_cases h
  · exact .inr ⟨.irq, r, ⟨hr, by simp⟩, hm⟩
  · exact .inr ⟨.fg, r, ⟨hr, fun _ => hirq⟩, hm⟩
  · exact .inl rfl

end

/-- Settles O40: a micro-step is one store, and the operation that runs clears only channels that are being cleared. -/
theorem microStepIsFifo : Obligations.MicroStepIsFifo := by
  intro s t c hs hc hclear h
  obtain rfl | ⟨x, r, run, hm⟩ := State.advance_runs h
  · exact .inl rfl
  obtain ⟨s', -, hw, ht⟩ := State.microStep_does hm
  have hcontents : t.contents c = s'.contents c := by
    obtain ⟨r', -, -, -, rfl⟩ | ⟨res, -, rfl⟩ := ht <;> simp
  rw [hcontents]
  exact hw.contents (hs.flight x r run.held) (hs.channelSound hc hclear) fun h =>
    hclear (hs.clearing_of_clears run h).2

end Sys2Proof.Machine

namespace Sys2Proof.Machine

/-! ## The two clock slots -/

section
variable (s : State) (i : BitVec 1)

theorem State.setEpoch_slot_other (e : Epoch) : (s.setEpoch (1 - i) e).slot i = s.slot i := by
  rw [State.setEpoch_slot, if_neg (other_slot_ne i)]

theorem State.setEpoch_slot_self (e : Epoch) : (s.setEpoch i e).slot i = { s.slot i with epoch := e } := by
  rw [State.setEpoch_slot, if_pos rfl]

theorem State.setLast_slot_other (l : Micros) : (s.setLast (1 - i) l).slot i = s.slot i := by
  rw [State.setLast_slot, if_neg (other_slot_ne i)]

theorem State.setLast_slot_self (l : Micros) : (s.setLast i l).slot i = { s.slot i with last := l } := by
  rw [State.setLast_slot, if_pos rfl]

end

/-! ## What the operation in flight knows after its own micro-step

`Micro.Keeps r s m`: after the micro-step `m` of `r` from `s`, the record knows what the invariant asks at its new step, and an
operation that clears channels leaves them empty when it returns. -/

/-- What a micro-step of `r` must leave for the invariant. -/
def Micro.Keeps (r : InFlight) (s : State) : Micro → Prop
  | .goto r' s' => 1 ≤ r'.ustep ∧ s'.tempsOk r'
  | .done _ s' => ∀ c ∈ r.instr.clears s.cfg, s'.tail c = s'.head c
  | .raise _ => True

section
variable {s : State} {r : InFlight} {c k : Nat}

/-- What a consumer knows past Q3 it knows at every later step. -/
theorem State.readerOk.past {j : Nat} {t : Temps} (h : s.readerOk c 4 t) : s.readerOk c j t :=
  ⟨fun _ => h.1 (by decide), fun _ => h.2.1 (by decide), fun _ => h.2.2 (by decide)⟩

/-- What follows a micro-step of CH.WRITE called in place (R161, R169). -/
theorem chWriteSub_keeps {j : Nat} {v : Elem} {t : Temps} (hs : s.channelSound c) (h1 : 1 ≤ j) (h5 : j ≤ 5)
    (hw : s.writerOk c j t) :
    (∃ t' s', chWriteSub c v j t s = .more t' s' ∧ j ≤ 4 ∧ s'.cfg = s.cfg ∧ s'.writerOk c (j + 1) t') ∨
      ∃ t' s', chWriteSub c v j t s = .ret t' s' := by
  obtain ⟨-, -, -, ⟨hh, -⟩, hocc⟩ := hs
  obtain ⟨hhead, htail, hroom⟩ := hw
  unfold chWriteSub
  split
  case h_1 =>
    exact .inl ⟨_, _, rfl, by decide, rfl, fun _ => ⟨hh, hocc, le_rfl⟩, by omega, by omega⟩
  case h_2 =>
    exact .inl ⟨_, _, rfl, by decide, rfl, fun _ => hhead (by decide), fun _ => rfl, by omega⟩
  case h_3 =>
    split
    · exact .inr ⟨_, _, rfl⟩
    · next hfull =>
      exact .inl ⟨_, _, rfl, by decide, rfl, fun _ => hhead (by decide), fun _ => htail (by decide), fun _ => by
        simpa using hfull⟩
  case h_4 =>
    refine .inl ⟨_, _, rfl, by decide, by simp, ?_⟩
    simp only [State.writerOk, State.occupancy, State.memWrite_cfg, State.memWrite_tail, State.memWrite_head]
    exact ⟨fun _ => hhead (by decide), fun _ => htail (by decide), fun _ => hroom (by decide)⟩
  case h_5 => exact .inr ⟨_, _, rfl⟩

/-- Q1 and Q2, the loads every consumer begins with (R162 to R164). -/
theorem State.readerOk_load_tail (hin : s.cursorsIn c) (t : Temps) : s.readerOk c 2 { t with tail := s.tail c } :=
  ⟨fun _ => ⟨hin.2, le_rfl⟩, by omega, by omega⟩

theorem State.readerOk.load_head {t : Temps} (h : s.readerOk c 2 t) : s.readerOk c 3 { t with head := s.head c } :=
  ⟨fun _ => h.1 (by decide), fun _ => rfl, by omega⟩

/-- Q3, passed. -/
theorem State.readerOk.test {t : Temps} (h : s.readerOk c 3 t) (hsome : ¬ isEmpty t.tail t.head = true) :
    s.readerOk c 4 t :=
  ⟨fun _ => h.1 (by decide), fun _ => h.2.1 (by decide), fun _ => by simpa using hsome⟩

/-! ### Operation by operation -/

theorem microClkUpdate_keeps (hr : r.instr = .clkUpdate) (ok : s.tempsOk r) :
    (microClkUpdate r s).Keeps r s := by
  simp only [State.tempsOk, hr, State.updaterOk] at ok
  obtain ⟨h7, hcur, hlast, hepoch, hother, hsample⟩ := ok
  have at_step {n : Nat} {t : Temps} {s' : State} (hn : 1 ≤ n) (hn7 : n ≤ 7) (h : s'.updaterOk n t) :
      (Micro.goto (r.at n t) s').Keeps r s := by
    refine ⟨hn, ?_⟩
    simp only [State.tempsOk, InFlight.at_instr, hr]
    exact ⟨hn7, h⟩
  unfold microClkUpdate
  dsimp only
  split
  case h_1 => exact at_step (by decide) (by decide) ⟨by omega, by omega, by omega, by omega, by omega⟩
  case h_2 => exact at_step (by decide) (by decide) ⟨fun _ => rfl, by omega, by omega, by omega, by omega⟩
  case h_3 step =>
    have hcur := hcur (by omega)
    exact at_step (by decide) (by decide) ⟨fun _ => hcur, fun _ => by simp [hcur], by omega, by omega, by omega⟩
  case h_4 step =>
    have hcur := hcur (by omega)
    exact at_step (by decide) (by decide)
      ⟨fun _ => hcur, fun _ => hlast (by omega), fun _ => by simp [hcur], by omega, by omega⟩
  case h_5 step =>
    rw [hcur (by omega), hlast (by omega), hepoch (by omega)]
    refine at_step (by decide) (by decide) ?_
    simp only [State.updaterOk, State.setEpoch_idx, State.setEpoch_slot_other, State.setEpoch_slot_self]
    exact ⟨fun _ => hcur (by omega), fun _ => hlast (by omega), fun _ => hepoch (by omega), fun _ => trivial, by omega⟩
  case h_6 step =>
    rw [hcur (by omega)]
    refine at_step (by decide) (by decide) ?_
    simp only [State.updaterOk, State.setLast_idx, State.setLast_slot_other, State.setLast_slot_self]
    exact ⟨fun _ => hcur (by omega), fun _ => hlast (by omega), fun _ => hepoch (by omega), fun _ => hother (by omega),
      fun _ => trivial⟩
  case h_7 => simp [Micro.Keeps, hr, Instr.clears]

theorem microChWrite_keeps (hr : r.instr = .chWrite c) (hs : s.channelSound c) (h1 : 1 ≤ r.ustep) (ok : s.tempsOk r) :
    (microChWrite c r s).Keeps r s := by
  simp only [State.tempsOk, hr] at ok
  unfold microChWrite
  obtain ⟨t', s', h, h4, -, hw⟩ | ⟨t', s', h⟩ := chWriteSub_keeps (v := .raw r.arg0) hs h1 ok.1 ok.2 <;> rw [h]
  · refine ⟨by simp, ?_⟩
    simp only [State.tempsOk, InFlight.at_instr, hr]
    exact ⟨Nat.succ_le_succ h4, hw⟩
  · simp [Sub.andThen, Micro.Keeps, hr, Instr.clears]

/-- The record of an operation that only consumes from channel `c`. -/
def InFlight.ConsumesOnly (r : InFlight) (s : State) (c : Nat) : Prop :=
  r.instr.clears s.cfg = [] ∧
    ∀ (n : Nat) (t : Temps) (s' : State), s'.cfg = s.cfg → s'.readerOk c n t → s'.tempsOk (r.at n t)

theorem InFlight.consumesOnly_ch (h : r.instr = .chRead c ∨ r.instr = .chPeek c ∨ r.instr = .chDiscard c) :
    r.ConsumesOnly s c := by
  refine ⟨?_, fun n t s' _ hr => ?_⟩ <;> rcases h with h | h | h <;>
    simp_all [Instr.clears, State.tempsOk]

theorem InFlight.consumesOnly_lnkRead (h : r.instr = .lnkRead k) : r.ConsumesOnly s (s.cfg.rx k) :=
  ⟨by simp [h, Instr.clears], fun n t s' hcfg hr => by simpa [State.tempsOk, h, hcfg] using hr⟩

/-- A called operation that returns to a caller which ends there. -/
theorem Sub.andThen_keeps {u : Sub} {res : Temps → State → Result} (hclear : r.instr.clears s.cfg = [])
    (h : ∀ t s', u = .more t s' → s'.tempsOk (r.at (r.ustep + 1) t)) :
    (u.andThen r fun t s' => .done (res t s') s').Keeps r s := by
  cases u with
  | more t s' => exact ⟨by simp, h t s' rfl⟩
  | ret t s' => simp [Sub.andThen, Micro.Keeps, hclear]
  | raise f => trivial

theorem microChRead_keeps (hr : r.ConsumesOnly s c) (hin : s.cursorsIn c)
    (ok : s.readerOk c r.ustep r.temps) : (microChRead c r s).Keeps r s := by
  refine Sub.andThen_keeps hr.1 fun t s' h => ?_
  unfold chReadSub at h
  split at h
  case h_1 step => cases h; rw [step]; exact hr.2 _ _ _ rfl (State.readerOk_load_tail hin _)
  case h_2 step => cases h; rw [step] at ok ⊢; exact hr.2 _ _ _ rfl ok.load_head
  case h_3 step =>
    split at h <;> cases h
    next hsome => rw [step] at ok ⊢; exact hr.2 _ _ _ rfl (ok.test hsome)
  case h_4 step => cases h; rw [step] at ok ⊢; exact hr.2 _ _ _ rfl (State.readerOk.past ok)
  case h_5 => cases h

theorem microChPeek_keeps (hr : r.ConsumesOnly s c) (hin : s.cursorsIn c)
    (ok : s.readerOk c r.ustep r.temps) : (microChPeek c r s).Keeps r s := by
  refine Sub.andThen_keeps hr.1 fun t s' h => ?_
  unfold chPeekSub at h
  split at h
  case h_1 step => cases h; rw [step]; exact hr.2 _ _ _ rfl (State.readerOk_load_tail hin _)
  case h_2 step => cases h; rw [step] at ok ⊢; exact hr.2 _ _ _ rfl ok.load_head
  case h_3 step =>
    split at h <;> cases h
    next hsome => rw [step] at ok ⊢; exact hr.2 _ _ _ rfl (ok.test hsome)
  case h_4 => cases h

theorem microChDiscard_keeps (hr : r.ConsumesOnly s c) (hin : s.cursorsIn c)
    (ok : s.readerOk c r.ustep r.temps) : (microChDiscard c r s).Keeps r s := by
  refine Sub.andThen_keeps hr.1 fun t s' h => ?_
  unfold chDiscardSub at h
  split at h
  case h_1 step => cases h; rw [step]; exact hr.2 _ _ _ rfl (State.readerOk_load_tail hin _)
  case h_2 step => cases h; rw [step] at ok ⊢; exact hr.2 _ _ _ rfl ok.load_head
  case h_3 step =>
    split at h <;> cases h
    next hsome => rw [step] at ok ⊢; exact hr.2 _ _ _ rfl (ok.test hsome)
  case h_4 => cases h

theorem microChClear_keeps (hr : r.instr = .chClear c) (hc : c < s.chans.length) (h1 : 1 ≤ r.ustep) (ok : s.tempsOk r) :
    (microChClear c r s).Keeps r s := by
  simp only [State.tempsOk, hr] at ok
  unfold microChClear chClearSub
  split
  case h_1 =>
    refine ⟨by simp, ?_⟩
    simp only [State.tempsOk, InFlight.at_instr, hr]
    exact fun _ => State.setHead_head_self s 0 hc
  case h_2 =>
    have hstep : 2 ≤ r.ustep := by simp only [imp_false] at *; omega
    simp [Sub.andThen, Micro.Keeps, hr, Instr.clears, State.setTail_tail, hc, ok hstep]

/-- A cursor that stands at 0 stays there when a cursor is set to 0. -/
theorem State.setHead_zero (s : State) (c : Nat) {d : Nat} (h : s.head d = 0) : (s.setHead c 0).head d = 0 := by
  rw [State.setHead_head]; split <;> simp [h]

theorem State.setTail_zero (s : State) (c : Nat) {d : Nat} (h : s.tail d = 0) : (s.setTail c 0).tail d = 0 := by
  rw [State.setTail_tail]; split <;> simp [h]

theorem microLnkClear_keeps (hr : r.instr = .lnkClear k) (hrx : s.cfg.hasRx k = true → s.cfg.rx k < s.chans.length)
    (htx : s.cfg.hasTx k = true → s.cfg.tx k < s.chans.length) (h1 : 1 ≤ r.ustep) (ok : s.tempsOk r) :
    (microLnkClear k r s).Keeps r s := by
  simp only [State.tempsOk, hr] at ok
  obtain ⟨rx, tx⟩ := ok
  have at_step {n : Nat} {s' : State} (hn : 1 ≤ n) (hcfg : s'.cfg = s.cfg)
      (hrx : s.cfg.hasRx k = true → (2 ≤ n → s'.head (s.cfg.rx k) = 0) ∧ (3 ≤ n → s'.tail (s.cfg.rx k) = 0))
      (htx : s.cfg.hasTx k = true → (4 ≤ n → s'.head (s.cfg.tx k) = 0) ∧ (5 ≤ n → s'.tail (s.cfg.tx k) = 0)) :
      (Micro.goto (r.at n r.temps) s').Keeps r s := by
    refine ⟨hn, ?_⟩
    simp only [State.tempsOk, InFlight.at_instr, hr, hcfg]
    exact ⟨hrx, htx⟩
  unfold microLnkClear
  dsimp only
  split
  case h_1 step =>
    refine at_step (by decide) (by split <;> rfl) (fun h => ⟨fun _ => ?_, by omega⟩) fun _ => ⟨by omega, by omega⟩
    rw [if_pos h, State.setHead_head_self _ _ (hrx h)]
  case h_2 step =>
    refine at_step (by decide) (by split <;> rfl) (fun h => ⟨fun _ => ?_, fun _ => ?_⟩) fun _ => ⟨by omega, by omega⟩
    · simpa [h] using (rx h).1 (by omega)
    · rw [if_pos h, State.setTail_tail_self _ _ (hrx h)]
  case h_3 step =>
    refine at_step (by decide) (by split <;> rfl) (fun h => ⟨fun _ => ?_, fun _ => ?_⟩)
      fun h => ⟨fun _ => ?_, by omega⟩
    · split
      · exact State.setHead_zero _ _ ((rx h).1 (by omega))
      · exact (rx h).1 (by omega)
    · split
      · simpa using (rx h).2 (by omega)
      · exact (rx h).2 (by omega)
    · rw [if_pos h, State.setHead_head_self _ _ (htx h)]
  case h_4 step =>
    refine at_step (by decide) (by split <;> rfl) (fun h => ⟨fun _ => ?_, fun _ => ?_⟩)
      fun h => ⟨fun _ => ?_, fun _ => ?_⟩
    · split
      · simpa using (rx h).1 (by omega)
      · exact (rx h).1 (by omega)
    · split
      · exact State.setTail_zero _ _ ((rx h).2 (by omega))
      · exact (rx h).2 (by omega)
    · simpa [h] using (tx h).1 (by omega)
    · rw [if_pos h, State.setTail_tail_self _ _ (htx h)]
  case h_5 =>
    have hstep : 5 ≤ r.ustep := by simp only [imp_false] at *; omega
    intro c hc
    rw [hr] at hc
    have hempty : s.tail c = s.head c := by
      rcases LinkCfg.mem_owned.mp hc with ⟨side, rfl⟩ | ⟨side, rfl⟩
      · exact ((rx side).2 (by omega)).trans ((rx side).1 (by omega)).symm
      · exact ((tx side).2 (by omega)).trans ((tx side).1 (by omega)).symm
    split <;> simpa using hempty

theorem microIsrErr_keeps {kind : ErrKind} (hr : r.instr = EventKind.handler k (.err kind))
    (hs : s.channelSound (s.cfg.rx k)) (h1 : 1 ≤ r.ustep) (ok : s.tempsOk r) : (microIsrErr kind k r s).Keeps r s := by
  obtain ⟨h10, hw⟩ := (State.tempsOk_handler_err hr).mp ok
  have at_step {n : Nat} {t : Temps} {s' : State} (hn : 1 ≤ n) (h10 : n ≤ 10) (hcfg : s'.cfg = s.cfg)
      (h : 6 ≤ n → s'.writerOk (s.cfg.rx k) (n - 5) t) : (Micro.goto (r.at n t) s').Keeps r s :=
    ⟨hn, (State.tempsOk_handler_err (r := r.at n t) hr).mpr ⟨h10, hcfg.symm ▸ h⟩⟩
  unfold microIsrErr
  split
  · next h5 =>
    have atW1 {t : Temps} : (Micro.goto (r.at 6 t) s).Keeps r s :=
      at_step (by decide) (by decide) rfl fun _ => ⟨by omega, by omega, by omega⟩
    unfold clkReadSub
    split
    case h_5 => exact atW1
    all_goals exact at_step (by simp) (by omega) rfl (by omega)
  · next h5 =>
    obtain ⟨t', s', h, h4, hcfg, hw⟩ | ⟨t', s', h⟩ :=
      chWriteSub_keeps (v := r.temps.elem) hs (by omega) (by omega) (hw (by omega)) <;> rw [h]
    · refine at_step (by omega) (by omega) hcfg fun _ => ?_
      rwa [show r.ustep + 1 - 5 = r.ustep - 5 + 1 by omega]
    · have : r.instr.clears s.cfg = [] := by rw [hr]; cases kind <;> rfl
      simp [Sub.andThen, Micro.Keeps, this]

theorem microIsrRx_keeps (hr : r.instr = .isrRx k) (hs : s.channelSound (s.cfg.rx k)) (h1 : 1 ≤ r.ustep)
    (ok : s.tempsOk r) : (microIsrRx k r s).Keeps r s := by
  simp only [State.tempsOk, hr] at ok
  obtain ⟨h14, hw⟩ := ok
  have at_step {n : Nat} {t : Temps} {s' : State} (hn : 1 ≤ n) (h14 : n ≤ 14) (hcfg : s'.cfg = s.cfg)
      (h : 9 ≤ n → n ≤ 13 → s'.writerOk (s.cfg.rx k) (n - 8) t) : (Micro.goto (r.at n t) s').Keeps r s := by
    refine ⟨hn, ?_⟩
    simp only [State.tempsOk, InFlight.at_instr, hr, hcfg]
    exact ⟨h14, h⟩
  have returns {s' : State} : (Micro.done .none s').Keeps r s := by simp [Micro.Keeps, hr, Instr.clears]
  unfold microIsrRx
  dsimp only
  split
  case h_1 => exact at_step (by decide) (by decide) rfl (by omega)
  case h_2 => split <;> exact at_step (by decide) (by decide) rfl (by omega)
  case h_3 =>
    obtain ⟨-, h⟩ | ⟨f, rest, -, h⟩ := s.hwRecv_cases k <;> rw [h]
    · exact returns
    · exact at_step (by decide) (by decide) (by simp) (by omega)
  case h_4 => exact returns
  case h_5 =>
    simp only [imp_false] at *
    split
    · have atW1 {t : Temps} : (Micro.goto (r.at 9 t) s).Keeps r s :=
        at_step (by decide) (by decide) rfl fun _ _ => ⟨by omega, by omega, by omega⟩
      split
      · unfold clkReadSub
        split
        case h_5 => exact atW1
        all_goals exact at_step (by simp) (by omega) rfl (by omega)
      · exact atW1
    · obtain ⟨t', s', h, h4, hcfg, hw⟩ | ⟨t', s', h⟩ :=
        chWriteSub_keeps (v := r.temps.elem) hs (by omega) (by omega) (hw (by omega) (by omega)) <;> rw [h]
      · refine at_step (by omega) (by omega) hcfg fun _ _ => ?_
        rwa [show r.ustep + 1 - 8 = r.ustep - 8 + 1 by omega]
      · exact ⟨by simp, by simp [State.tempsOk, hr]⟩

theorem microLnkWrite_keeps (hr : r.instr = .lnkWrite k) (hs : s.channelSound (s.cfg.tx k)) (h1 : 1 ≤ r.ustep)
    (ok : s.tempsOk r) : (microLnkWrite k r s).Keeps r s := by
  simp only [State.tempsOk, hr] at ok
  obtain ⟨h11, hw⟩ := ok
  have at_step {n : Nat} {t : Temps} {s' : State} (hn : 1 ≤ n) (h11 : n ≤ 11) (hcfg : s'.cfg = s.cfg)
      (h : 6 ≤ n → n ≤ 10 → s'.writerOk (s.cfg.tx k) (n - 5) t) : (Micro.goto (r.at n t) s').Keeps r s := by
    refine ⟨hn, ?_⟩
    simp only [State.tempsOk, InFlight.at_instr, hr, hcfg]
    exact ⟨h11, h⟩
  have returns {res : Result} {s' : State} : (Micro.done res s').Keeps r s := by
    simp [Micro.Keeps, hr, Instr.clears]
  unfold microLnkWrite
  dsimp only
  split
  case h_1 => split <;> exact at_step (by decide) (by decide) rfl (by omega)
  case h_2 =>
    rw [State.hwXmit_eq]
    split
    · exact at_step (n := 3) (by decide) (by decide) (by simp) (by omega)
    · exact at_step (n := 4) (by decide) (by decide) rfl (by omega)
  case h_3 => exact returns
  case h_4 => exact at_step (by decide) (by decide) rfl (by omega)
  case h_5 =>
    split
    · exact returns
    · exact at_step (by decide) (by decide) rfl fun _ _ => ⟨by omega, by omega, by omega⟩
  case h_6 => exact returns
  case h_7 =>
    simp only [imp_false] at *
    obtain ⟨t', s', h, h4, hcfg, hw⟩ | ⟨t', s', h⟩ :=
      chWriteSub_keeps (v := .raw r.arg0) hs (by omega) (by omega) (hw (by omega) (by omega)) <;> rw [h]
    · refine at_step (by omega) (by omega) hcfg fun _ _ => ?_
      rwa [show r.ustep + 1 - 5 = r.ustep - 5 + 1 by omega]
    · exact ⟨by simp, by simp [State.tempsOk, hr]⟩

theorem microIsrTxDone_keeps (hr : r.instr = .isrTxDone k) (ok : s.tempsOk r) :
    (microIsrTxDone k r s).Keeps r s := by
  simp only [State.tempsOk, hr] at ok
  obtain ⟨htail, hsome, hhead⟩ := ok
  have at_step {n : Nat} {t : Temps} {s' : State} (hn : 1 ≤ n) (hcfg : s'.cfg = s.cfg)
      (htail : n = 2 → t.tail = s'.tail (s.cfg.tx k))
      (hsome : 4 ≤ n → s'.tail (s.cfg.tx k) ≠ s'.head (s.cfg.tx k))
      (hhead : 8 ≤ n → t.head = s'.head (s.cfg.tx k)) : (Micro.goto (r.at n t) s').Keeps r s := by
    refine ⟨hn, ?_⟩
    simp only [State.tempsOk, InFlight.at_instr, hr, hcfg]
    exact ⟨htail, hsome, hhead⟩
  have returns {s' : State} : (Micro.done .none s').Keeps r s := by simp [Micro.Keeps, hr, Instr.clears]
  unfold microIsrTxDone
  dsimp only
  split
  case h_1 => exact at_step (by decide) rfl (fun _ => rfl) (by omega) (by omega)
  case h_2 step =>
    split
    · exact at_step (by decide) rfl (by omega) (by omega) (by omega)
    · next hne =>
      rw [isEmpty_iff, htail step] at hne
      exact at_step (by decide) rfl (by omega) (fun _ => hne) (by omega)
  case h_3 => exact returns
  case h_4 => exact at_step (by decide) rfl (by omega) (fun _ => hsome (by omega)) (by omega)
  case h_5 =>
    rw [State.hwXmit_eq]
    split
    · exact at_step (by decide) (by simp) (by omega) (fun _ => by simpa using hsome (by omega)) (by omega)
    · exact returns
  case h_6 => exact at_step (by decide) rfl (by omega) (fun _ => hsome (by omega)) (by omega)
  case h_7 => exact at_step (by decide) rfl (by omega) (fun _ => hsome (by omega)) (fun _ => rfl)
  case h_8 => exact returns

theorem microTckCheck_keeps {n : Nat} (hr : r.instr = .tckCheck n) : (microTckCheck n r s).Keeps r s := by
  have at_step {m : Nat} {t : Temps} (hm : 1 ≤ m) : (Micro.goto (r.at m t) s).Keeps r s :=
    ⟨hm, by simp [State.tempsOk, hr]⟩
  unfold microTckCheck clkReadSub
  split
  case h_2 => simp [Micro.Keeps, hr, Instr.clears]
  case h_3 => split <;> exact at_step (by simp)
  all_goals exact at_step (by simp)

theorem microTckReset_keeps {n : Nat} (hr : r.instr = .tckReset n) : (microTckReset n r s).Keeps r s := by
  have at_step {m : Nat} {t : Temps} (hm : 1 ≤ m) : (Micro.goto (r.at m t) s).Keeps r s :=
    ⟨hm, by simp [State.tempsOk, hr]⟩
  unfold microTckReset clkReadSub
  split
  case h_1 => simp [Micro.Keeps, hr, Instr.clears]
  case h_2 => split <;> exact at_step (by simp)

/-- In a sound state, every micro-step of the operation that runs leaves its record what the invariant asks. -/
theorem microOf_keeps {x : Ctx} (hs : s.Sound) (run : s.Runs x r) : (microOf r.instr r s).Keeps r s := by
  have ok := hs.flight x r run.held
  have temps := ok.tempsOk
  have exists_of_uses {c : Nat} (hc : c ∈ r.instr.uses s.cfg) : c < s.cfg.nCh := ok.admitted.uses_lt hs.params hc
  have cursors {c : Nat} (hc : c ∈ r.instr.uses s.cfg) : s.cursorsIn c := hs.cursors c (exists_of_uses hc)
  have sound {c : Nat} (hc : c ∈ r.instr.uses s.cfg) (hclear : c ∉ r.instr.clears s.cfg) : s.channelSound c :=
    hs.channelSound (exists_of_uses hc) (hs.not_clearing run hc hclear)
  have length {c : Nat} (hc : c ∈ r.instr.uses s.cfg) : c < s.chans.length := by
    rw [hs.shape.chans_length]; exact exists_of_uses hc
  have reads {f : Temps → State → Result} {u : Sub} (hi : r.instr.clears s.cfg = [])
      (hu : ∀ q : InFlight, q.instr = r.instr → ∀ s' : State, s'.tempsOk q) :
      (u.andThen r fun t s' => .done (f t s') s').Keeps r s :=
    Sub.andThen_keeps hi fun t s' _ => hu _ (by simp) s'
  cases hr : r.instr with
  | clkUpdate => exact microClkUpdate_keeps hr temps
  | clkRead | clkReadMs => exact reads (by rw [hr]; rfl) fun q hq s' => by simp [State.tempsOk, hq, hr]
  | tckCheck n => exact microTckCheck_keeps hr
  | tckReset n => exact microTckReset_keeps hr
  | timePast => simp [microOf, microTimePast, Micro.Keeps, hr, Instr.clears]
  | chWrite c => exact microChWrite_keeps hr (sound (by simp [hr, Instr.uses]) (by simp [hr, Instr.clears])) ok.one_le temps
  | chRead c =>
    simp only [State.tempsOk, hr] at temps
    exact microChRead_keeps (InFlight.consumesOnly_ch (.inl hr)) (cursors (by simp [hr, Instr.uses])) temps
  | chPeek c =>
    simp only [State.tempsOk, hr] at temps
    exact microChPeek_keeps (InFlight.consumesOnly_ch (.inr (.inl hr))) (cursors (by simp [hr, Instr.uses])) temps
  | chDiscard c =>
    simp only [State.tempsOk, hr] at temps
    exact microChDiscard_keeps (InFlight.consumesOnly_ch (.inr (.inr hr))) (cursors (by simp [hr, Instr.uses])) temps
  | chClear c => exact microChClear_keeps hr (length (by simp [hr, Instr.uses])) ok.one_le temps
  | chFull | chEmpty | lnkRxEmpty | lnkRxFull | lnkTxEmpty | lnkTxFull =>
    exact reads (by rw [hr]; rfl) fun q hq s' => by simp [State.tempsOk, hq, hr]
  | lnkRead k =>
    simp only [State.tempsOk, hr] at temps
    exact microChRead_keeps (InFlight.consumesOnly_lnkRead hr) (cursors (by simp [hr, Instr.uses])) temps
  | lnkWrite k =>
    exact microLnkWrite_keeps hr (sound (by simp [hr, Instr.uses]) (by simp [hr, Instr.clears])) ok.one_le temps
  | lnkClear k =>
    refine microLnkClear_keeps hr (fun side => length ?_) (fun side => length ?_) ok.one_le temps <;> rw [hr]
    · exact Params.rx_mem_owned side
    · exact Params.tx_mem_owned side
  | isrRx k => exact microIsrRx_keeps hr (sound (by simp [hr, Instr.uses]) (by simp [hr, Instr.clears])) ok.one_le temps
  | isrTxDone k => exact microIsrTxDone_keeps hr temps
  | isrErrWarn k | isrErrOvf k | isrErrWake k | isrErrPassive k | isrErrArb k | isrErrBus k =>
    exact microIsrErr_keeps hr (sound (by simp [hr, Instr.uses]) (by simp [hr, Instr.clears])) ok.one_le temps

end

end Sys2Proof.Machine

namespace Sys2Proof.Machine

/-! ## What the foreground's operation knows outlives the micro-steps of `IRQ` (42_channel.md R169, 40_clock.md R126) -/

/-- Only CLK.UPDATE writes the clock. -/
theorem InFlight.Wrote.clock {r : InFlight} {s t : State} (h : r.Wrote s t) (hr : r.instr ≠ .clkUpdate) :
    t.idx = s.idx ∧ ∀ i, t.slot i = s.slot i := by
  cases h
  case epoch who _ | last who _ | publish who _ => exact absurd who hr
  all_goals simp

/-- The store leaves channel `c` alone when the operation does not use it. -/
theorem InFlight.Wrote.chan_of_not_uses {r : InFlight} {s t : State} (h : r.Wrote s t) {c : Nat}
    (hc : c ∉ r.instr.uses s.cfg) : t.chan c = s.chan c := by
  have apart {d : Nat} (hd : d ∈ r.instr.uses s.cfg) : c ≠ d := by rintro rfl; exact hc hd
  cases h
  case fill d _ who _ _ => exact State.memWrite_chan_ne _ _ _ (apart (Instr.fills_subset_uses _ _ who))
  case push d who _ => exact State.setTail_chan_ne _ _ (apart (Instr.fills_subset_uses _ _ who))
  case pop d who _ => exact State.setHead_chan_ne _ _ (apart (Instr.drains_subset_uses _ _ who))
  case clearHead d who => exact State.setHead_chan_ne _ _ (apart (Instr.clears_subset_uses _ _ who))
  case clearTail d who => exact State.setTail_chan_ne _ _ (apart (Instr.clears_subset_uses _ _ who))
  all_goals simp

section
variable {s t : State} {r q : InFlight} {c : Nat}

/-- A producer in the foreground and an operation of `IRQ` that stores: the producer's knowledge stays. -/
theorem State.Sound.writerOk_irq (hs : s.Sound) (run : s.Runs .irq r) (hw : r.Wrote s t) (fg : s.inFlightOk .fg q)
    (hc : c ∈ q.instr.fills s.cfg) {j : Nat} {w : Temps} (h : s.writerOk c j w) : t.writerOk c j w := by
  have ok := hs.flight .irq r run.held
  have hlt : c < s.cfg.nCh := fg.admitted.uses_lt hs.params (Instr.fills_subset_uses _ _ hc)
  refine (hw.cursorMove ok (hs.shape.chans_length ▸ hlt) (hs.cursors c hlt)).writerOk (fun hfill => ?_) (fun hclear => ?_)
    hw.sameOuter.cfg (Params.one_le_cap hs.params hlt) (hs.cursors c hlt) h
  · exact absurd ((ok.admitted.prod_eq hs.params hfill).symm.trans (fg.admitted.prod_eq hs.params hc)) (by decide)
  · exact absurd (ok.admitted.clears_fg hclear) (by decide)

/-- A consumer in the foreground, in the same way. -/
theorem State.Sound.readerOk_irq (hs : s.Sound) (run : s.Runs .irq r) (hw : r.Wrote s t) (hlt : c < s.cfg.nCh)
    (hcons : s.cfg.cons c = .fg) {j : Nat} {w : Temps} (h : s.readerOk c j w) : t.readerOk c j w := by
  have ok := hs.flight .irq r run.held
  refine (hw.cursorMove ok (hs.shape.chans_length ▸ hlt) (hs.cursors c hlt)).readerOk (fun hdrain => ?_) (fun hclear => ?_)
    hw.sameOuter.cfg (Params.one_le_cap hs.params hlt) (hs.cursors c hlt) h
  · exact absurd ((ok.admitted.cons_eq hs.params hdrain).symm.trans hcons) (by decide)
  · exact absurd (ok.admitted.clears_fg hclear) (by decide)

/-- A clear in the foreground: nothing of `IRQ` touches its channels (R165). -/
theorem State.Sound.chan_clearing_irq (hs : s.Sound) (run : s.Runs .irq r) (hw : r.Wrote s t)
    (hq : s.inflight.fg = some q) (hc : c ∈ q.instr.clears s.cfg) : t.head c = s.head c ∧ t.tail c = s.tail c := by
  have hclearing : c ∈ s.clearing := by simpa [State.clearing, hq] using hc
  have hchan := hw.chan_of_not_uses (c := c) fun huse => hs.quiet r run.held c huse hclearing
  exact ⟨by rw [State.head, hchan]; rfl, by rw [State.tail, hchan]; rfl⟩

/-- Every kind of knowledge of the operation in flight in `FG` outlives a store of `IRQ`. -/
theorem State.Sound.tempsOk_irq (hs : s.Sound) (run : s.Runs .irq r) (hw : r.Wrote s t) (hq : s.inflight.fg = some q) :
    t.tempsOk q := by
  have ok := hs.flight .irq r run.held
  have fg : s.inFlightOk .fg q := hs.flight .fg q hq
  have hcfg : t.cfg = s.cfg := hw.sameOuter.cfg
  have temps := fg.tempsOk
  have exists_of_uses {c : Nat} (hc : c ∈ q.instr.uses s.cfg) : c < s.cfg.nCh := fg.admitted.uses_lt hs.params hc
  obtain ⟨legal, role⟩ := fg.admitted
  cases hi : q.instr <;> simp only [hi, Instr.portAllows, Instr.legal, Bool.and_eq_true, beq_iff_eq, decide_eq_true_eq,
      reduceCtorEq, false_and, or_false, Bool.false_eq_true] at legal role <;>
    simp only [State.tempsOk, hi, hcfg] at temps ⊢
  case clkUpdate =>
    have hne : r.instr ≠ .clkUpdate := by
      intro he
      have := ok.admitted.2
      simp [he, Instr.portAllows, Instr.event, ← role] at this
    obtain ⟨hidx, hslot⟩ := hw.clock hne
    simpa only [State.updaterOk, hidx, hslot] using temps
  case chWrite c => exact ⟨temps.1, hs.writerOk_irq run hw fg (by simp [hi, Instr.fills]) temps.2⟩
  case chRead c | chPeek c | chDiscard c =>
    exact hs.readerOk_irq run hw (exists_of_uses (by simp [hi, Instr.uses])) role.2.symm temps
  case chClear c =>
    rw [(hs.chan_clearing_irq run hw hq (c := c) (by simp [hi, Instr.clears])).1]
    exact temps
  case lnkRead k =>
    exact hs.readerOk_irq run hw (exists_of_uses (by simp [hi, Instr.uses])) (Params.roles_rx hs.params legal.1 legal.2).2
      temps
  case lnkWrite k =>
    exact ⟨temps.1, fun h6 h10 => hs.writerOk_irq run hw fg (by simp [hi, Instr.fills]) (temps.2 h6 h10)⟩
  case lnkClear k =>
    have same {c : Nat} (hc : c ∈ (s.cfg.link k).owned) := hs.chan_clearing_irq run hw hq (c := c) (by rwa [hi])
    refine ⟨fun side => ?_, fun side => ?_⟩
    · rw [(same (Params.rx_mem_owned side)).1, (same (Params.rx_mem_owned side)).2]
      exact temps.1 side
    · rw [(same (Params.tx_mem_owned side)).1, (same (Params.tx_mem_owned side)).2]
      exact temps.2 side

/-! ## The registers keep their shape -/

/-- A store keeps every count and size (R54). -/
theorem InFlight.Wrote.shaped (h : r.Wrote s t) (hs : s.shaped) : t.shaped := by
  obtain ⟨hexpiry, hchans, htx, hhw, hstore⟩ := hs
  have store (d : Nat) : (t.chan d).store.length = (s.chan d).store.length := by
    cases h
    case fill => exact State.memWrite_store_length ..
    case push | clearTail => rw [State.setTail_chan]; split <;> rfl
    case pop | clearHead => rw [State.setHead_chan]; split <;> rfl
    all_goals simp
  refine ⟨?_, ?_, ?_, ?_, fun c hc => ?_⟩
  case refine_5 =>
    rw [h.sameOuter.cfg] at hc ⊢
    rw [store, hstore c hc]
  all_goals
    rw [h.sameOuter.cfg]
    cases h <;> simpa

/-! ## States with the same registers are equally sound -/

/-- `t` agrees with `s` in what the invariant reads beside the operations in flight. -/
structure State.SameCore (s t : State) : Prop where
  cfg : t.cfg = s.cfg
  slot0 : t.slot0 = s.slot0
  slot1 : t.slot1 = s.slot1
  idx : t.idx = s.idx
  chans : t.chans = s.chans
  expiry : t.expiry.length = s.expiry.length
  txState : t.txState.length = s.txState.length
  hw : t.hw.length = s.hw.length

theorem State.SameRegs.sameCore (h : s.SameRegs t) : s.SameCore t :=
  ⟨h.cfg, h.slot0, h.slot1, h.idx, h.chans, by rw [h.expiry], by rw [h.txState], by rw [h.hw]⟩

namespace State.SameCore

variable (h : s.SameCore t)

include h

theorem chan (c : Nat) : t.chan c = s.chan c := by unfold State.chan; rw [h.chans]
theorem head (c : Nat) : t.head c = s.head c := State.head_congr h.chans c
theorem tail (c : Nat) : t.tail c = s.tail c := State.tail_congr h.chans c
theorem slot (i : BitVec 1) : t.slot i = s.slot i := by unfold State.slot; rw [h.slot0, h.slot1]
theorem occupancy (c : Nat) : t.occupancy c = s.occupancy c := by
  unfold State.occupancy; rw [h.cfg, h.head, h.tail]
theorem cursorsIn (c : Nat) : t.cursorsIn c ↔ s.cursorsIn c := by
  unfold State.cursorsIn; rw [h.cfg, h.head, h.tail]
theorem shaped : t.shaped ↔ s.shaped := by
  simp only [State.shaped, h.cfg, h.expiry, h.chans, h.txState, h.hw, h.chan]
theorem writerOk (c j : Nat) (w : Temps) : t.writerOk c j w ↔ s.writerOk c j w := by
  unfold State.writerOk; rw [h.cfg, h.tail, h.occupancy]
theorem readerOk (c j : Nat) (w : Temps) : t.readerOk c j w ↔ s.readerOk c j w := by
  unfold State.readerOk; rw [h.cfg, h.head, h.occupancy]
theorem updaterOk (j : Nat) (w : Temps) : t.updaterOk j w ↔ s.updaterOk j w := by
  simp only [State.updaterOk, h.idx, h.slot]

theorem tempsOk (q : InFlight) : t.tempsOk q ↔ s.tempsOk q := by
  unfold State.tempsOk
  cases q.instr <;> simp only [h.cfg, h.head, h.tail, h.writerOk, h.readerOk, h.updaterOk]

theorem inFlightOk (x : Ctx) (q : InFlight) : t.inFlightOk x q ↔ s.inFlightOk x q := by
  unfold State.inFlightOk; rw [h.cfg, h.tempsOk]

/-- The invariant reads the registers and the operations in flight. -/
theorem sound (hin : t.inflight = s.inflight) (hs : s.Sound) : t.Sound := by
  have hclearing : t.clearing = s.clearing := by unfold State.clearing; rw [hin, h.cfg]
  refine ⟨h.cfg ▸ hs.params, h.shaped.mpr hs.shape, fun c hc => ?_, fun c hc => ?_, fun x q hq => ?_, fun q hq => ?_⟩
  · rw [h.cursorsIn]; exact hs.cursors c (h.cfg ▸ hc)
  · rw [hclearing, h.occupancy, h.cfg]; exact hs.occupied c (h.cfg ▸ hc)
  · rw [h.inFlightOk]; exact hs.flight x q (hin ▸ hq)
  · rw [hclearing, h.cfg]; exact hs.quiet q (hin ▸ hq)

end State.SameCore

/-! ## A micro-step keeps the invariant -/

/-- What every store of the running operation keeps, whatever becomes of its record. -/
theorem State.Sound.registers (hs : s.Sound) {x : Ctx} (run : s.Runs x r) (hw : r.Wrote s t) :
    t.cfg.wf = true ∧ t.shaped ∧ (∀ c < t.cfg.nCh, t.cursorsIn c) ∧
      ∀ c < t.cfg.nCh, c ∉ s.clearing → t.occupancy c ≤ t.cfg.cap c := by
  have ok := hs.flight x r run.held
  have hcfg : t.cfg = s.cfg := hw.sameOuter.cfg
  have move {c : Nat} (hc : c < s.cfg.nCh) : CursorMove r.instr c s t :=
    hw.cursorMove ok (hs.shape.chans_length ▸ hc) (hs.cursors c hc)
  refine ⟨hcfg ▸ hs.params, hw.shaped hs.shape, fun c hc => ?_, fun c hc hclear => ?_⟩ <;> rw [hcfg] at hc
  · exact (move hc).cursorsIn hcfg (Params.one_le_cap hs.params hc) (hs.cursors c hc)
  · exact (move hc).occupancy_le (fun h => hclear (hs.clearing_of_clears run h).2) hcfg (Params.one_le_cap hs.params hc)
      (hs.cursors c hc) (hs.occupied c hc hclear)

/-- The operation in flight in the other context, if there is one, keeps what it knows. -/
theorem State.Sound.other (hs : s.Sound) {x y : Ctx} (run : s.Runs x r) (hw : r.Wrote s t) (hy : y ≠ x)
    (hq : s.inflight.get y = some q) : t.inFlightOk y q := by
  have hcfg : t.cfg = s.cfg := hw.sameOuter.cfg
  obtain ⟨legal, role, h1, -⟩ := hs.flight y q hq
  cases x with
  | fg =>
    cases y with
    | fg => exact absurd rfl hy
    | irq => exact absurd (hq.symm.trans (run.alone rfl)) (by simp)
  | irq =>
    cases y with
    | irq => exact absurd rfl hy
    | fg => exact ⟨hcfg ▸ legal, hcfg ▸ role, h1, hs.tempsOk_irq run hw hq⟩

theorem State.Sound.hold {x : Ctx} {r' : InFlight} (hs : s.Sound) (run : s.Runs x r) (hw : r.Wrote s t)
    (houter : s.SameOuter t) (hi : r'.instr = r.instr) (h1 : 1 ≤ r'.ustep) (ok : t.tempsOk r') : (t.hold x r').Sound := by
  obtain ⟨params, shape, cursors, occupied⟩ := hs.registers run hw
  have core : t.SameCore (t.hold x r') := (t.sameRegs_hold x r').sameCore
  have hclearing : (t.hold x r').clearing = s.clearing := by
    have held := run.held
    cases x <;> simp_all [State.clearing, houter.inflight, houter.cfg]
  refine ⟨params, core.shaped.mpr shape, fun c hc => (core.cursorsIn c).mpr (cursors c hc), fun c hc hclear => ?_,
    fun y q hq => ?_, fun q hq c hc => ?_⟩
  · rw [core.occupancy]
    exact occupied c hc (hclearing ▸ hclear)
  · rw [core.inFlightOk]
    by_cases hy : y = x
    · subst hy
      obtain rfl : r' = q := by simpa using hq
      obtain ⟨legal, role, -, -⟩ := hs.flight y r run.held
      exact ⟨by rw [hi, houter.cfg]; exact legal, by rw [hi, houter.cfg]; exact role, h1, ok⟩
    · rw [State.hold_inflight, PerCtx.get_set_ne _ hy, houter.inflight] at hq
      exact hs.other run hw hy hq
  · rw [hclearing]
    cases x with
    | irq =>
      obtain rfl : r' = q := by simpa using hq
      rw [State.hold_cfg, houter.cfg, hi] at hc
      exact hs.quiet r run.held c hc
    | fg => simp [houter.inflight, run.alone rfl] at hq

theorem State.Sound.leave {x : Ctx} {res : Result} (hs : s.Sound) (run : s.Runs x r) (hw : r.Wrote s t)
    (houter : s.SameOuter t) (hempty : ∀ c ∈ r.instr.clears s.cfg, t.tail c = t.head c) : (t.leave x res).Sound := by
  obtain ⟨params, shape, cursors, occupied⟩ := hs.registers run hw
  have core : t.SameCore (t.leave x res) := (t.sameRegs_leave x res).sameCore
  have hclearing (c : Nat) (hc : c ∉ (t.leave x res).clearing) : c ∈ r.instr.clears s.cfg ∨ c ∉ s.clearing := by
    have held := run.held
    cases x with
    | fg =>
      refine or_iff_not_imp_left.mpr fun hn => ?_
      simpa [State.clearing, show s.inflight.fg = some r from held] using hn
    | irq => exact .inr (by simpa [State.clearing, houter.inflight, houter.cfg] using hc)
  refine ⟨params, core.shaped.mpr shape, fun c hc => (core.cursorsIn c).mpr (cursors c hc), fun c hc hclear => ?_,
    fun y q hq => ?_, fun q hq c hc => ?_⟩
  · rw [core.occupancy]
    rcases hclearing c hclear with h | h
    · rw [State.occupancy, hempty c h, occ_self (cursors c hc).1]
      exact Nat.zero_le _
    · exact occupied c hc h
  · rw [core.inFlightOk]
    have hy : y ≠ x := by rintro rfl; simp at hq
    rw [State.leave_inflight, PerCtx.get_set_ne _ hy, houter.inflight] at hq
    exact hs.other run hw hy hq
  · cases x with
    | irq => simp at hq
    | fg => simp [houter.inflight, run.alone rfl] at hq

/-- Every micro-step keeps the invariant. -/
theorem State.Sound.microStep {x : Ctx} (hs : s.Sound) (run : s.Runs x r)
    (h : s.microStep (microOf r.instr) x r = .next t) : t.Sound := by
  have keeps := microOf_keeps hs run
  obtain ⟨s', houter, hw, ⟨r', hm, hi, -, rfl⟩ | ⟨res, hm, rfl⟩⟩ := State.microStep_does h <;> rw [hm] at keeps
  · exact hs.hold run hw houter hi keeps.1 keeps.2
  · exact hs.leave run hw houter keeps

theorem State.Sound.advance (hs : s.Sound) (h : s.advance = .next t) : t.Sound := by
  obtain rfl | ⟨x, r, run, hm⟩ := State.advance_runs h
  · exact hs
  · exact hs.microStep run hm

/-! ## Acceptance keeps the invariant -/

/-- At its first micro-step an operation knows nothing yet. -/
theorem State.tempsOk_first {s : State} (h : r.ustep = 1) : s.tempsOk r := by
  unfold State.tempsOk State.writerOk State.readerOk State.updaterOk
  rw [h]
  cases r.instr <;> simp

theorem State.mayStart.admitted {i : Instr} (h : s.mayStart i) : i.admitted s.cfg s.req.src.ctx := by
  obtain ⟨legal, role, -⟩ := h
  refine ⟨legal, ?_⟩
  cases hsrc : s.req.src with
  | port x => rw [hsrc] at role; exact .inl role
  | dispatcher => rw [hsrc] at role; exact .inr ⟨rfl, role⟩

/-- What a context that is ready has in flight (R257, R264, R265). -/
theorem State.ready_iff (s : State) (x : Ctx) :
    s.ready x = true ↔ s.inflight.irq = none ∧ (x = .fg → s.inflight.fg = none) := by
  cases x <;> simp [State.ready]

theorem State.Sound.enter {i : Instr} (hs : s.Sound) (ready : s.ready s.req.src.ctx = true) (h : s.mayStart i) :
    (s.enter i).Sound := by
  obtain ⟨hirq, hfg⟩ := (s.ready_iff _).mp ready
  have core : s.SameCore (s.enter i) := (s.sameRegs_enter i).sameCore
  have hclearing (c : Nat) (hc : c ∉ (s.enter i).clearing) : c ∉ s.clearing := by
    cases hx : s.req.src.ctx with
    | fg => simp [State.clearing, hfg hx]
    | irq => simpa [State.clearing, hx] using hc
  refine ⟨hs.params, core.shaped.mpr hs.shape, fun c hc => (core.cursorsIn c).mpr (hs.cursors c hc),
    fun c hc hclear => (core.occupancy c).symm ▸ hs.occupied c hc (hclearing c hclear), fun y q hq => ?_, fun q hq c hc => ?_⟩
  · rw [core.inFlightOk]
    by_cases hy : y = s.req.src.ctx
    · subst hy
      obtain rfl : _ = q := by simpa using hq
      exact ⟨h.admitted.1, h.admitted.2, le_rfl, State.tempsOk_first rfl⟩
    · rw [State.enter_inflight, PerCtx.get_set_ne _ hy] at hq
      exact hs.flight y q hq
  · cases hx : s.req.src.ctx with
    | fg => simp [hx, hirq] at hq
    | irq =>
      obtain rfl : _ = q := by simpa [hx] using hq
      have : (s.enter i).clearing = s.clearing := by simp [State.clearing, hx]
      rw [this]
      exact h.2.2 hx c hc

/-- Every micro-step of a whole operation starts from a state in which the operation runs. -/
theorem State.runMicro_sound {i : Instr} {x : Ctx} {n : Nat} {P : State → Prop}
    (keep : ∀ u q v, u.Sound → u.Runs x q → P u → u.microStep (microOf q.instr) x q = .next v → P v)
    (hs : s.Sound) (hi : ∀ q, s.inflight.get x = some q → q.instr = i) (alone : x = .fg → s.inflight.irq = none)
    (h : State.runMicro (microOf i) x n s = .next t) (hP : P s) : t.Sound ∧ P t := by
  have step : ∀ u q v,
      ((u.Sound ∧ P u) ∧ (∀ q, u.inflight.get x = some q → q.instr = i) ∧ (x = .fg → u.inflight.irq = none)) →
      u.inflight.get x = some q → u.microStep (microOf i) x q = .next v →
      ((v.Sound ∧ P v) ∧ (∀ q, v.inflight.get x = some q → q.instr = i) ∧ (x = .fg → v.inflight.irq = none)) := by
    rintro u q v ⟨⟨hu, hPu⟩, hi, alone⟩ hq hm
    obtain rfl := hi q hq
    have run : u.Runs x q := ⟨hq, alone⟩
    refine ⟨⟨hu.microStep run hm, keep u q v hu run hPu hm⟩, ?_⟩
    obtain ⟨u', houter, -, ⟨r', -, hi', -, rfl⟩ | ⟨res, -, rfl⟩⟩ := State.microStep_does hm
    · refine ⟨by simp [hi'], fun hx => ?_⟩
      subst hx
      simpa [houter.inflight] using alone rfl
    · refine ⟨by simp, fun hx => ?_⟩
      subst hx
      simpa [houter.inflight] using alone rfl
  exact (State.runMicro_induction step ⟨⟨hs, hP⟩, hi, alone⟩ h).1

/-- What holds of a sound state after every micro-step, holds after a whole operation. -/
theorem State.Sound.exec_induction {i : Instr} {P : State → Prop} (hs : s.Sound) (ready : s.ready s.req.src.ctx = true)
    (h : exec i s = .next t) (refuse : ∀ code, P (s.refuse code)) (enter : s.mayStart i → P (s.enter i))
    (keep : ∀ x u q v, u.Sound → u.Runs x q → P u → u.microStep (microOf q.instr) x q = .next v → P v) :
    t.Sound ∧ P t := by
  obtain ⟨code, -, rfl⟩ | ⟨hv, hrun⟩ := exec_next h
  · exact ⟨(s.sameRegs_refuse code).sameCore.sound rfl hs, refuse code⟩
  · have start := (s.verdict_accepted_iff_mayStart i).mp hv
    obtain ⟨hirq, -⟩ := (s.ready_iff _).mp ready
    refine State.runMicro_sound (keep _) (hs.enter ready start) (by simp) (fun hx => ?_) hrun (enter start)
    simp [hx, hirq]

theorem State.Sound.exec {i : Instr} (hs : s.Sound) (ready : s.ready s.req.src.ctx = true) (h : exec i s = .next t) :
    t.Sound :=
  (hs.exec_induction (P := fun _ => True) ready h (fun _ => trivial) (fun _ => trivial) fun _ _ _ _ _ _ _ _ => trivial).1

/-- What a step can do, with what the invariant needs to know of it: micro-steps, the start of an operation in a context that is
ready, or a change of the environment or of the ports that leaves the registers. -/
theorem step_inversion (h : step s = .next t) :
    (∃ rest, State.advance { s with script := rest } = .next t) ∨
    (∃ rest whole req i, State.start { s with script := rest } whole req i = .next t ∧ s.ready req.src.ctx = true) ∨
    (s.SameCore t ∧ t.inflight = s.inflight ∧
      ∀ k, ∀ f ∈ (t.peripheral k).rxq, f ∈ (s.peripheral k).rxq ∨ f < 2 ^ s.cfg.frameW) := by
  have env (rest : List Move) (k : Nat) (f : Peripheral → Peripheral)
      (hf : ∀ g ∈ (f (s.peripheral k)).rxq, g ∈ (s.peripheral k).rxq ∨ g < 2 ^ s.cfg.frameW) :
      s.SameCore (State.onPeripheral { s with script := rest } k f) ∧
        (State.onPeripheral { s with script := rest } k f).inflight = s.inflight ∧
        ∀ m, ∀ g ∈ ((State.onPeripheral { s with script := rest } k f).peripheral m).rxq,
          g ∈ (s.peripheral m).rxq ∨ g < 2 ^ s.cfg.frameW := by
    refine ⟨⟨rfl, rfl, rfl, rfl, rfl, rfl, rfl, by simp [State.onPeripheral]⟩, rfl, fun m g hg => ?_⟩
    rw [State.onPeripheral, State.setPeripheral_peripheral] at hg
    split at hg
    · next hm => obtain ⟨rfl, -⟩ := hm; exact hf g hg
    · exact .inl hg
  have same : s.SameCore s := ⟨rfl, rfl, rfl, rfl, rfl, rfl, rfl, rfl⟩
  cases hs : s.script with
  | nil =>
    have hself : { s with script := [] } = s := by rw [← hs]
    exact .inl ⟨[], by rw [hself]; simpa [step, hs] using h⟩
  | cons m rest =>
    have waits (ha : s.advance = .next t) : ∃ rest, State.advance { s with script := rest } = .next t := ⟨s.script, ha⟩
    rw [step_move hs] at h
    cases m with
    | request whole x w a0 a1 =>
      simp only [State.move] at h
      split at h
      · next hready =>
        cases hd : decode w with
        | ok i =>
          rw [State.command_of_decode_ok hd] at h
          exact .inr (.inl ⟨rest, whole, _, i, h, hready⟩)
        | error e =>
          rw [State.command_of_decode_error hd] at h
          cases h
          exact .inr (.inr ⟨⟨rfl, rfl, rfl, rfl, rfl, rfl, rfl, rfl⟩, rfl, fun k f hf => .inl hf⟩)
      · exact .inl (waits h)
    | event whole k ev =>
      simp only [State.move, State.serve] at h
      split at h
      · next hready =>
        split at h
        · exact .inr (.inl ⟨rest, whole, _, _, h, hready⟩)
        · cases h
          exact .inr (.inr ⟨⟨rfl, rfl, rfl, rfl, rfl, rfl, rfl, rfl⟩, rfl, fun k f hf => .inl hf⟩)
      · exact .inl (waits h)
    | advance => exact .inl ⟨rest, h⟩
    | elapse us =>
      cases h
      exact .inr (.inr ⟨⟨rfl, rfl, rfl, rfl, rfl, rfl, rfl, rfl⟩, rfl, fun k f hf => .inl hf⟩)
    | arrive k f =>
      cases h
      refine .inr (.inr (env rest k _ fun g hg => ?_))
      rcases List.mem_append.mp hg with hg | hg
      · exact .inl hg
      · rw [List.mem_singleton.mp hg]
        exact .inr (Nat.mod_lt _ (Nat.two_pow_pos _))
    | answer k b => cases h; exact .inr (.inr (env rest k _ fun g hg => .inl hg))
    | transmitting k b => cases h; exact .inr (.inr (env rest k _ fun g hg => .inl hg))

/-- A step keeps what, beside the invariant, every micro-step, every acceptance and every change of the environment keeps. -/
theorem State.Sound.step_induction {P : State → Prop} (hs : s.Sound) (h : step s = .next t)
    (congr : ∀ u v, u.SameRegs v → v.inflight = u.inflight → P u → P v)
    (enter : ∀ (u : State) (i : Instr), u.mayStart i → P u → P (u.enter i))
    (keep : ∀ x u q v, u.Sound → u.Runs x q → P u → u.microStep (microOf q.instr) x q = .next v → P v)
    (env : s.SameCore t → t.inflight = s.inflight →
      (∀ k, ∀ f ∈ (t.peripheral k).rxq, f ∈ (s.peripheral k).rxq ∨ f < 2 ^ s.cfg.frameW) → P t)
    (hP : P s) : t.Sound ∧ P t := by
  obtain ⟨rest, ha⟩ | ⟨rest, whole, req, i, hstart, ready⟩ | ⟨hcore, hin, hpending⟩ := step_inversion h
  · have hu : State.Sound { s with script := rest } := (s.sameRegs_script rest).sameCore.sound rfl hs
    have hPu : P { s with script := rest } := congr _ _ (s.sameRegs_script rest) rfl hP
    obtain rfl | ⟨x, r, run, hm⟩ := State.advance_runs ha
    · exact ⟨hu, hPu⟩
    · exact ⟨hu.microStep run hm, keep x _ r t hu run hPu hm⟩
  · have regs : s.SameRegs { s with script := rest, req := req } := by constructor <;> rfl
    have hu : State.Sound { s with script := rest, req := req } := regs.sameCore.sound rfl hs
    have hPu : P { s with script := rest, req := req } := congr _ _ regs rfl hP
    rcases State.start_next hstart with he | hissue
    · exact hu.exec_induction ready he (fun code => congr _ _ (State.sameRegs_refuse _ code) rfl hPu)
        (fun start => enter _ i start hPu) keep
    · obtain ⟨code, -, rfl⟩ | ⟨hv, rfl⟩ := State.issue_next hissue
      · exact ⟨(State.sameRegs_refuse _ code).sameCore.sound rfl hu, congr _ _ (State.sameRegs_refuse _ code) rfl hPu⟩
      · have start := (State.verdict_accepted_iff_mayStart _ i).mp hv
        exact ⟨hu.enter ready start, enter _ i start hPu⟩
  · exact ⟨hcore.sound hin hs, env hcore hin hpending⟩

end

/-- Settles O52. -/
theorem stepKeepsSound : Obligations.StepKeepsSound := fun _ _ hs h =>
  (hs.step_induction (P := fun _ => True) h (fun _ _ _ _ _ => trivial) (fun _ _ _ _ => trivial)
    (fun _ _ _ _ _ _ _ _ => trivial) (fun _ _ _ => trivial) trivial).1

end Sys2Proof.Machine

namespace Sys2Proof.Machine

/-! ## Every element keeps the type of its channel (10_state.md R44, 93_implementation_defined.md U13) -/

section
variable {s t : State} {r q : InFlight} {k : Nat}

/-- What an operation carries depends on its record and the parameters. -/
theorem State.cargoTyped_congr (h : t.cfg = s.cfg) (q : InFlight) : t.cargoTyped q ↔ s.cargoTyped q := by
  unfold State.cargoTyped; rw [h]

/-- The loads of CH.WRITE keep the element in hand. -/
theorem chWriteSub_more {c j : Nat} {v : Elem} {w w' : Temps} {s' : State} (h : chWriteSub c v j w s = .more w' s') :
    w'.elem = w.elem := by
  unfold chWriteSub at h
  split at h
  case h_3 => split at h <;> cases h; rfl
  case h_5 => cases h
  all_goals cases h; rfl

/-- The loads of CLK.READ keep the frame in hand. -/
theorem clkReadSub_frame {j : Nat} {w w' : Temps} {s' : State}
    (h : clkReadSub j w s = .more w' s' ∨ clkReadSub j w s = .ret w' s') : w'.frame = w.frame := by
  unfold clkReadSub at h
  split at h <;> rcases h with h | h <;> cases h <;> rfl

/-- A clock reading returns at its fifth step, not before. -/
theorem clkReadSub_ret {j : Nat} {w w' : Temps} {s' : State} (h : clkReadSub j w s = .ret w' s') (h1 : 1 ≤ j) : 5 ≤ j := by
  unfold clkReadSub at h
  split at h
  case h_5 => simp only [imp_false] at *; omega
  all_goals cases h

/-- What an error handler stores is a record, and its link has timestamps (R45, R202). -/
theorem microIsrErr_carries {kind : ErrKind} {x : Ctx} {r' : InFlight} (hp : s.cfg.wf = true)
    (hr : r.instr = EventKind.handler k (.err kind)) (ok : s.inFlightOk x r) (cargo : s.cargoTyped r)
    (h : microIsrErr kind k r s = .goto r' t) : s.cargoTyped r' := by
  have legal := ok.1
  have hkind : s.cfg.kind (s.cfg.rx k) = .rxRecord := by
    rw [hr] at legal
    have hl : (k < s.cfg.nLnk ∧ s.cfg.hasRx k = true) ∧ s.cfg.timestamp k = true := by
      cases kind <;> simpa [EventKind.handler, Instr.legal] using legal
    simp [Params.kind_rx hp hl.1.1 hl.1.2, hl.2]
  have cargo := (State.cargoTyped_handler_err hr).mp cargo
  unfold microIsrErr at h
  split at h
  · next h5 =>
    cases hu : clkReadSub r.ustep r.temps s with
    | more w s' =>
      rw [hu] at h
      cases h
      refine (State.cargoTyped_handler_err (r := r.at _ w) hr).mpr fun h6 => ?_
      have := ok.one_le
      have : 5 ≠ r.ustep := by rintro he; rw [← he] at hu; cases hu
      simp only [InFlight.at_ustep] at h6
      omega
    | ret w s' =>
      rw [hu] at h
      cases h
      exact (State.cargoTyped_handler_err (r := r.at 6 _) hr).mpr fun _ => by simp [Elem.fits, hkind]
    | raise f => rw [hu] at h; cases h
  · next h5 =>
    cases hu : chWriteSub (s.cfg.rx k) r.temps.elem (r.ustep - 5) r.temps s with
    | more w s' =>
      rw [hu] at h
      cases h
      refine (State.cargoTyped_handler_err (r := r.at _ w) hr).mpr fun _ => ?_
      rw [InFlight.at_temps, chWriteSub_more hu]
      exact cargo (by omega)
    | ret w s' => rw [hu] at h; cases h
    | raise f => rw [hu] at h; cases h

/-- What ISR.RX takes is a pending frame, and what it stores is that frame in the form of its channel (R194). -/
theorem microIsrRx_carries {x : Ctx} {r' : InFlight} (hp : s.cfg.wf = true) (hr : r.instr = .isrRx k)
    (ok : s.inFlightOk x r) (pending : ∀ f ∈ (s.peripheral k).rxq, f < 2 ^ s.cfg.frameW) (cargo : s.cargoTyped r)
    (h : microIsrRx k r s = .goto r' t) : s.cargoTyped r' := by
  have h1 := ok.one_le
  have legal := ok.1
  simp only [hr, Instr.legal, Bool.and_eq_true, decide_eq_true_eq] at legal
  have hkind := Params.kind_rx hp legal.1 legal.2
  simp only [State.cargoTyped, hr] at cargo
  obtain ⟨hframe, helem⟩ := cargo
  have at_step {n : Nat} {w : Temps} (frame : 4 ≤ n → n ≤ 8 → w.frame < 2 ^ s.cfg.frameW)
      (elem : 9 ≤ n → n ≤ 13 → w.elem.fits s.cfg (s.cfg.rx k) = true) : s.cargoTyped (r.at n w) := by
    simp only [State.cargoTyped, InFlight.at_instr, hr]
    exact ⟨frame, elem⟩
  unfold microIsrRx at h
  dsimp only at h
  split at h
  case h_1 => cases h; exact at_step (by omega) (by omega)
  case h_2 => cases h; split <;> exact at_step (by omega) (by omega)
  case h_3 =>
    obtain ⟨-, hq⟩ | ⟨f, rest, hrxq, hq⟩ := s.hwRecv_cases k <;> rw [hq] at h <;> cases h
    exact at_step (fun _ _ => pending f (by simp [hrxq])) (by omega)
  case h_4 => cases h
  case h_5 =>
    simp only [imp_false] at *
    split at h
    · next h8 =>
      split at h
      · next hts =>
        cases hu : clkReadSub (r.ustep - 3) r.temps s with
        | more w s' =>
          rw [hu] at h
          cases h
          have hstep : r.ustep ≠ 8 := by rintro he; rw [he] at hu; cases hu
          refine at_step (fun _ _ => ?_) (by omega)
          rw [clkReadSub_frame (.inl hu)]
          exact hframe (by omega) (by omega)
        | ret w s' =>
          rw [hu] at h
          cases h
          refine at_step (by omega) fun _ _ => ?_
          simpa [Elem.fits, hkind, hts, clkReadSub_frame (.inr hu)] using hframe (by omega) (by omega)
        | raise f => rw [hu] at h; cases h
      · next hts =>
        cases h
        refine at_step (by omega) fun _ _ => ?_
        simpa [Elem.fits, Params.elemW, hkind, hts] using hframe (by omega) (by omega)
    · cases hu : chWriteSub (s.cfg.rx k) r.temps.elem (r.ustep - 8) r.temps s with
      | more w s' =>
        rw [hu] at h
        cases h
        refine at_step (by omega) fun _ _ => ?_
        rw [chWriteSub_more hu]
        exact helem (by omega) (by omega)
      | ret w s' => rw [hu] at h; cases h; exact at_step (by omega) (by omega)
      | raise f => rw [hu] at h; cases h

/-- What the running operation carries to a channel keeps the channel's type. -/
theorem microOf_carries {x : Ctx} {r' : InFlight} (hs : s.Sound) (ht : s.Typed) (run : s.Runs x r)
    (h : microOf r.instr r s = .goto r' t) (hi : r'.instr = r.instr) (h0 : r'.arg0 = r.arg0) : s.cargoTyped r' := by
  have ok := hs.flight x r run.held
  have cargo := ht.cargo x r run.held
  cases hr : r.instr <;> rw [hr] at h hi
  case chWrite c => simpa [State.cargoTyped, hi, hr, h0] using cargo
  case lnkWrite k => simpa [State.cargoTyped, hi, hr, h0] using cargo
  case isrRx k => exact microIsrRx_carries hs.params hr ok (ht.pending k) cargo h
  case isrErrWarn k | isrErrOvf k | isrErrWake k | isrErrPassive k | isrErrArb k | isrErrBus k =>
    exact microIsrErr_carries hs.params hr ok cargo h
  all_goals simp [State.cargoTyped, hi]

/-- A store of the running operation keeps every stored element typed. -/
theorem InFlight.Wrote.store_typed {x : Ctx} (hw : r.Wrote s t) (hs : s.Sound) (ht : s.Typed) (run : s.Runs x r) {c : Nat}
    (hc : c < s.cfg.nCh) : ∀ e ∈ (t.chan c).store, e.fits s.cfg c = true := by
  have hstore := ht.store c hc
  cases hw
  case fill d v who room typed =>
    rw [State.memWrite_chan]
    split
    · next hd =>
      obtain ⟨rfl, -⟩ := hd
      intro e he
      rcases List.mem_or_eq_of_mem_set he with he | rfl
      · exact hstore e he
      · exact typed x hs.params (hs.flight x r run.held) (ht.cargo x r run.held)
    · exact hstore
  case push | clearTail => rw [State.setTail_chan]; split <;> exact hstore
  case pop | clearHead => rw [State.setHead_chan]; split <;> exact hstore
  all_goals simpa using hstore

/-- A store of the running operation adds no pending frame (R271, R280). -/
theorem InFlight.Wrote.pending_subset (hw : r.Wrote s t) (m : Nat) :
    ∀ f ∈ (t.peripheral m).rxq, f ∈ (s.peripheral m).rxq := by
  cases hw
  case peripheral k h who pending =>
    rw [State.setPeripheral_peripheral]
    split
    · next hm => obtain ⟨rfl, -⟩ := hm; exact pending
    · exact fun _ hf => hf
  all_goals exact fun f hf => by simpa using hf

/-- The storage, the peripherals and the operations in flight are all that typing reads. -/
theorem State.Typed.of_parts (hcfg : t.cfg = s.cfg)
    (store : ∀ c < s.cfg.nCh, ∀ e ∈ (t.chan c).store, e.fits s.cfg c = true)
    (pending : ∀ k, ∀ f ∈ (t.peripheral k).rxq, f < 2 ^ s.cfg.frameW)
    (cargo : ∀ x r, t.inflight.get x = some r → s.cargoTyped r) : t.Typed :=
  ⟨by rw [hcfg]; exact store, by rw [hcfg]; exact pending, fun x r hr =>
    (State.cargoTyped_congr hcfg r).mpr (cargo x r hr)⟩

theorem State.Typed.microStep {x : Ctx} (hs : s.Sound) (ht : s.Typed) (run : s.Runs x r)
    (h : s.microStep (microOf r.instr) x r = .next t) : t.Typed := by
  obtain ⟨s', houter, hw, ⟨r', hm, hi, h0, rfl⟩ | ⟨res, hm, rfl⟩⟩ := State.microStep_does h
  · refine State.Typed.of_parts houter.cfg (fun c hc => hw.store_typed hs ht run hc)
      (fun k f hf => ht.pending k f (hw.pending_subset k f hf)) fun y q hq => ?_
    by_cases hy : y = x
    · subst hy
      obtain rfl : r' = q := by simpa using hq
      exact microOf_carries hs ht run hm hi h0
    · rw [State.hold_inflight, PerCtx.get_set_ne _ hy, houter.inflight] at hq
      exact ht.cargo y q hq
  · refine State.Typed.of_parts houter.cfg (fun c hc => hw.store_typed hs ht run hc)
      (fun k f hf => ht.pending k f (hw.pending_subset k f hf)) fun y q hq => ?_
    have hy : y ≠ x := by rintro rfl; simp at hq
    rw [State.leave_inflight, PerCtx.get_set_ne _ hy, houter.inflight] at hq
    exact ht.cargo y q hq

/-- The operands are sampled to their widths (R92). -/
theorem State.Typed.enter {i : Instr} (ht : s.Typed) : (s.enter i).Typed := by
  refine State.Typed.of_parts rfl ht.store ht.pending fun y q hq => ?_
  by_cases hy : y = s.req.src.ctx
  · subst hy
    obtain rfl : _ = q := by simpa using hq
    cases i <;> simp [State.cargoTyped, operand0, Nat.mod_lt]
  · rw [State.enter_inflight, PerCtx.get_set_ne _ hy] at hq
    exact ht.cargo y q hq

theorem State.SameRegs.typed (h : s.SameRegs t) (hin : t.inflight = s.inflight) (ht : s.Typed) : t.Typed :=
  State.Typed.of_parts h.cfg (fun c hc => by rw [h.sameCore.chan]; exact ht.store c hc)
    (fun k => by unfold State.peripheral; rw [h.hw]; exact ht.pending k) fun x r hr => ht.cargo x r (hin ▸ hr)

end

/-- Settles O53. -/
theorem stepKeepsTyped : Obligations.StepKeepsTyped := fun _ _ hs ht h =>
  (hs.step_induction h (fun _ _ regs hin hu => regs.typed hin hu) (fun _ _ _ hu => hu.enter)
    (fun _ _ _ _ hu run ht hm => State.Typed.microStep hu ht run hm)
    (fun hcore hin hpending => State.Typed.of_parts hcore.cfg
      (fun c hc => by rw [hcore.chan]; exact ht.store c hc)
      (fun k f hf => (hpending k f hf).elim (ht.pending k f) id) fun x r hr => ht.cargo x r (hin ▸ hr)) ht).2

/-! ## Reset meets the invariants (10_state.md section 7) -/

/-- A value fitted to a channel fits it. -/
theorem Elem.fits_fitTo (p : Params) (c : Nat) (e : Elem) : (e.fitTo p c).fits p c = true := by
  unfold Elem.fitTo
  cases hk : p.kind c <;> cases e <;> simp [Elem.fits, hk, Nat.mod_lt]

@[simp] theorem State.resetWith_cfg (p : Params) : (State.resetWith p).cfg = p := rfl

theorem State.resetWith_peripheral (p : Params) (k : Nat) :
    (State.resetWith p).peripheral k = ⟨[], true, false, []⟩ := by
  unfold State.peripheral State.resetWith
  by_cases hk : k < p.nLnk <;> simp [List.getD_eq_getElem?_getD, hk]

theorem State.resetWith_sound {p : Params} (hp : p.wf = true) : (State.resetWith p).Sound := by
  have cap {c : Nat} (hc : c < p.nCh) : 0 < curMod (p.cap c) := by
    have := Params.one_le_cap hp hc
    unfold curMod; omega
  have cursors (c : Nat) (hc : c < p.nCh) : (State.resetWith p).cursorsIn c := by
    simp only [State.cursorsIn, State.resetWith_head, State.resetWith_tail]
    exact ⟨cap hc, cap hc⟩
  refine ⟨hp, ⟨?_, ?_, ?_, ?_, fun c hc => ?_⟩, cursors, fun c hc _ => ?_, fun x r hr => ?_, fun r hr => ?_⟩
  case refine_5 =>
    rw [State.resetWith_cfg] at hc
    rw [State.resetWith_chan, if_pos hc]
    exact (List.length_map _).trans List.length_range
  case refine_6 =>
    rw [State.resetWith_cfg] at hc
    rw [State.occupancy, State.resetWith_cfg, State.resetWith_head, State.resetWith_tail, occ_self (cap hc)]
    exact Nat.zero_le _
  case refine_7 => cases x <;> cases hr
  case refine_8 => cases hr
  all_goals simp [State.resetWith]

theorem State.resetWith_typed (p : Params) : (State.resetWith p).Typed := by
  refine ⟨fun c hc e he => ?_, fun k f hf => ?_, fun x r hr => ?_⟩
  · rw [State.resetWith_cfg] at hc
    rw [State.resetWith_chan, if_pos hc] at he
    obtain ⟨i, -, rfl⟩ := List.mem_map.mp he
    exact Elem.fits_fitTo p c _
  · rw [State.resetWith_peripheral] at hf
    cases hf
  · cases x <;> cases hr

/-- Settles O7. -/
theorem resetSound : Obligations.ResetSound := by
  refine ⟨by decide, fun p hp => ⟨State.resetWith_sound hp, State.resetWith_typed p, fun k _ => State.resetWith_tx p k,
    fun k _ _ _ hne => ?_, rfl, rfl⟩⟩
  rw [State.resetWith_head, State.resetWith_tail] at hne
  exact absurd rfl hne

end Sys2Proof.Machine

namespace Sys2Proof.Machine

/-! ## Whole operations, run symbolically

`State.showing s x a` is `s` with `a` on the result port of `x`. It commutes with every store, and returning replaces what it shows:
what the port shows while an operation runs does not matter. -/

/-- The result port of `x` shows `a` (R93). -/
def State.showing (s : State) (x : Ctx) (a : Result) : State := { s with result := s.result.set x a }

section
variable (s : State) (x : Ctx) (a : Result)

@[simp] theorem State.showing_leave (res : Result) : (s.showing x a).leave x res = s.leave x res :=
  s.leave_of_result_set x a res

@[simp] theorem State.showing_cfg : (s.showing x a).cfg = s.cfg := rfl
@[simp] theorem State.showing_idx : (s.showing x a).idx = s.idx := rfl
@[simp] theorem State.showing_slot (j : BitVec 1) : (s.showing x a).slot j = s.slot j := rfl
@[simp] theorem State.showing_hwCounter : (s.showing x a).hwCounter = s.hwCounter := rfl
@[simp] theorem State.showing_expiryOf (t : Nat) : (s.showing x a).expiryOf t = s.expiryOf t := rfl
@[simp] theorem State.showing_head (c : Nat) : (s.showing x a).head c = s.head c := rfl
@[simp] theorem State.showing_tail (c : Nat) : (s.showing x a).tail c = s.tail c := rfl
@[simp] theorem State.showing_memRead (c i : Nat) : (s.showing x a).memRead c i = s.memRead c i := rfl
@[simp] theorem State.showing_tx (k : Nat) : (s.showing x a).tx k = s.tx k := rfl
@[simp] theorem State.showing_peripheral (k : Nat) : (s.showing x a).peripheral k = s.peripheral k := rfl
@[simp] theorem State.showing_reading : (s.showing x a).reading = s.reading := rfl

@[simp] theorem State.showing_setEpoch (i : BitVec 1) (e : Epoch) :
    (s.showing x a).setEpoch i e = (s.setEpoch i e).showing x a := by
  unfold State.setEpoch; split <;> rfl

@[simp] theorem State.showing_setLast (i : BitVec 1) (l : Micros) :
    (s.showing x a).setLast i l = (s.setLast i l).showing x a := by
  unfold State.setLast; split <;> rfl

@[simp] theorem State.showing_setIdx (i : BitVec 1) : (s.showing x a).setIdx i = (s.setIdx i).showing x a := rfl
@[simp] theorem State.showing_setExpiry (t : Nat) (v : Micros) :
    (s.showing x a).setExpiry t v = (s.setExpiry t v).showing x a := rfl
@[simp] theorem State.showing_setHead (c v : Nat) : (s.showing x a).setHead c v = (s.setHead c v).showing x a := rfl
@[simp] theorem State.showing_setTail (c v : Nat) : (s.showing x a).setTail c v = (s.setTail c v).showing x a := rfl
@[simp] theorem State.showing_memWrite (c i : Nat) (v : Elem) :
    (s.showing x a).memWrite c i v = (s.memWrite c i v).showing x a := rfl
@[simp] theorem State.showing_setTx (k : Nat) (v : TxState) :
    (s.showing x a).setTx k v = (s.setTx k v).showing x a := rfl
@[simp] theorem State.showing_setPeripheral (k : Nat) (h : Peripheral) :
    (s.showing x a).setPeripheral k h = (s.setPeripheral k h).showing x a := rfl

end

/-- The record in which an operation begins (R50). -/
def State.firstRecord (s : State) (i : Instr) : InFlight :=
  ⟨i, operand0 s.cfg i s.req.arg0, operand1 i s.req.arg1, 1, {}⟩

/-- An accepted operation that runs to `t`, whatever its result port shows meanwhile. -/
theorem exec_of_runMicro {i : Instr} {s : State} {x : Ctx} {o : Host.Outcome State Fault Refusal}
    (h : s.verdict i = .accepted) (hx : s.req.src.ctx = x)
    (run : State.runMicro (microOf i) x (wholeSteps s i) ((s.showing x .none).hold x (s.firstRecord i)) = o) :
    exec i s = o := (exec_accepted h hx).trans run

section
variable (s : State) (x : Ctx) (i : Instr) (a0 a1 : Nat) (w : Temps)

theorem State.runMicro_clkUpdate :
    State.runMicro microClkUpdate x 7 (s.hold x ⟨i, a0, a1, 1, w⟩) =
      .next ((((s.setEpoch (1 - s.idx) (rollover (s.slot s.idx).epoch (s.slot s.idx).last s.hwCounter)).setLast
        (1 - s.idx) s.hwCounter).setIdx (1 - s.idx)).leave x .none) := by
  simp [State.runMicro_hold, microClkUpdate, InFlight.at]

theorem State.runMicro_clkReadMs :
    State.runMicro microClkReadMs x 5 (s.hold x ⟨i, a0, a1, 1, w⟩) = .next (s.leave x (.clock (millis s.reading))) := by
  let r : InFlight := ⟨i, a0, a1, 1, w⟩
  have k5 (s' : State) : microClkReadMs (r.at 5 (s.clkLoads w)) s' = .done (.clock (millis s.reading)) s' := by
    simp [microClkReadMs, clkReadSub_loaded, Sub.andThen]
  calc
    _ = State.runMicro microClkReadMs x 1 (s.hold x (r.at 5 (s.clkLoads w))) :=
      State.runMicro_clkLoads (k := fun _ t s => .done (.clock (millis t.reading)) s) (b := 0) (fun _ _ _ _ _ => rfl) x 1
        s w
    _ = _ := by rw [State.runMicro_hold, k5]; simp

/-- The low half of a reading is the counter sample (R142). -/
theorem State.nowOf_reading : nowOf s.reading = s.hwCounter := nowOf_clockValue _ _

/-- What a TCK.CHECK finds: the sample is past the expiry (R142). -/
def State.fires (t : Nat) : Bool := timePast s.cfg.tHalf s.hwCounter (s.expiryOf t)

theorem State.runMicro_tckCheck (t : Nat) :
    State.runMicro (microTckCheck t) x 7 (s.hold x ⟨i, a0, a1, 1, w⟩) =
      .next ((if s.fires t then s.setExpiry t (s.expiryOf t + s.cfg.period t) else s).leave x (.flag (s.fires t))) := by
  cases h : s.fires t <;> unfold State.fires at h <;>
    simp [State.runMicro_hold, microTckCheck, clkReadSub, Sub.andThen, InFlight.at, h]

theorem State.runMicro_tckReset (t : Nat) :
    State.runMicro (microTckReset t) x 6 (s.hold x ⟨i, a0, a1, 1, w⟩) =
      .next ((s.setExpiry t (s.hwCounter + s.cfg.period t)).leave x .none) := by
  simp [State.runMicro_hold, microTckReset, clkReadSub, Sub.andThen, InFlight.at]

variable (c : Nat)

/-- The cursors of `c` show it full (R38, R166). -/
abbrev State.full : Bool := isFull (s.cfg.cap c) (s.tail c) (s.head c)

@[simp] theorem State.showing_full (a : Result) : (s.showing x a).full c = s.full c := rfl
@[simp] theorem State.setPeripheral_full (k : Nat) (h : Peripheral) : (s.setPeripheral k h).full c = s.full c := rfl

theorem State.full_iff : s.full c = true ↔ s.occupancy c = s.cfg.cap c := isFull_iff

/-- What CH.WRITE and its callers do to the registers: store at the write end and advance `tail`, or, on a full channel, nothing
(R161). -/
def State.written (v : Elem) : State :=
  if s.full c then s
  else (s.memWrite c (s.tail c % s.cfg.cap c) v).setTail c (cursorNext (s.cfg.cap c) (s.tail c))

@[simp] theorem State.showing_written (a : Result) (v : Elem) :
    (s.showing x a).written c v = (s.written c v).showing x a := by
  unfold State.written
  rw [apply_ite (State.showing · x a)]
  rfl

theorem State.runMicro_chWrite :
    State.runMicro (microChWrite c) x 5 (s.hold x ⟨i, a0, a1, 1, w⟩) = .next ((s.written c (.raw a0)).leave x .none) := by
  unfold State.written
  cases h : s.full c <;>
    simp [State.runMicro_hold, microChWrite, chWriteSub, Sub.andThen, InFlight.at, h]

/-- What a consumer does to the registers: `head` goes on (R162). -/
def State.removed : State := s.setHead c (cursorNext (s.cfg.cap c) (s.head c))

@[simp] theorem State.showing_removed (a : Result) : (s.showing x a).removed c = (s.removed c).showing x a := rfl

/-- The element a consumer sees at the read end, on a result port (R162). -/
def State.oldest : Result := .elem s.cfg c (s.memRead c (s.head c % s.cfg.cap c))

@[simp] theorem State.showing_oldest (a : Result) : (s.showing x a).oldest c = s.oldest c := rfl

theorem State.runMicro_chRead {f : InFlight → State → Micro}
    (hf : ∀ r q, f r (s.hold x q) = microChRead c r (s.hold x q)) :
    State.runMicro f x 5 (s.hold x ⟨i, a0, a1, 1, w⟩) =
      if s.tail c = s.head c then .fault (.readEmpty c) else .next ((s.removed c).leave x (s.oldest c)) := by
  unfold State.removed State.oldest
  by_cases h : s.tail c = s.head c <;>
    simp [State.runMicro_hold, hf, microChRead, chReadSub, isEmpty, Sub.andThen, InFlight.at, h]

theorem State.runMicro_chPeek :
    State.runMicro (microChPeek c) x 4 (s.hold x ⟨i, a0, a1, 1, w⟩) =
      if s.tail c = s.head c then .fault (.peekEmpty c) else .next (s.leave x (s.oldest c)) := by
  unfold State.oldest
  by_cases h : s.tail c = s.head c <;>
    simp [State.runMicro_hold, microChPeek, chPeekSub, isEmpty, Sub.andThen, InFlight.at, h]

theorem State.runMicro_chDiscard :
    State.runMicro (microChDiscard c) x 4 (s.hold x ⟨i, a0, a1, 1, w⟩) =
      if s.tail c = s.head c then .fault (.discardEmpty c) else .next ((s.removed c).leave x .none) := by
  unfold State.removed
  by_cases h : s.tail c = s.head c <;>
    simp [State.runMicro_hold, microChDiscard, chDiscardSub, isEmpty, Sub.andThen, InFlight.at, h]

/-- What a clear does to the registers of one channel (R165). -/
def State.emptied : State := (s.setHead c 0).setTail c 0

@[simp] theorem State.showing_emptied (a : Result) : (s.showing x a).emptied c = (s.emptied c).showing x a := rfl

theorem State.runMicro_chClear :
    State.runMicro (microChClear c) x 2 (s.hold x ⟨i, a0, a1, 1, w⟩) = .next ((s.emptied c).leave x .none) := by
  simp [State.runMicro_hold, microChClear, chClearSub, Sub.andThen, InFlight.at, State.emptied]

theorem State.runMicro_chFull {f : InFlight → State → Micro}
    (hf : ∀ r q, f r (s.hold x q) = microChFull c r (s.hold x q)) :
    State.runMicro f x 2 (s.hold x ⟨i, a0, a1, 1, w⟩) =
      .next (s.leave x (.flag (s.full c))) := by
  simp [State.runMicro_hold, hf, microChFull, cursorsSub, Sub.andThen, InFlight.at]

theorem State.runMicro_chEmpty {f : InFlight → State → Micro}
    (hf : ∀ r q, f r (s.hold x q) = microChEmpty c r (s.hold x q)) :
    State.runMicro f x 2 (s.hold x ⟨i, a0, a1, 1, w⟩) =
      .next (s.leave x (.flag (isEmpty (s.tail c) (s.head c)))) := by
  simp [State.runMicro_hold, hf, microChEmpty, cursorsSub, Sub.andThen, InFlight.at]

variable (k : Nat)

theorem State.runMicro_isrErr (kind : ErrKind) :
    State.runMicro (microIsrErr kind k) x 10 (s.hold x ⟨i, a0, a1, 1, w⟩) =
      .next ((s.written (s.cfg.rx k) (.error (millis s.reading) kind)).leave x .none) := by
  unfold State.written State.reading
  cases h : s.full (s.cfg.rx k) <;>
    simp [State.runMicro_hold, microIsrErr, chWriteSub, clkReadSub, Sub.andThen, InFlight.at, h]

/-- The link becomes Busy if it is buffered (R221 steps T3 and T7). -/
def State.busied : State := if s.cfg.txMode k = .buffered then s.setTx k .busy else s

@[simp] theorem State.showing_busied (a : Result) : (s.showing x a).busied k = (s.busied k).showing x a := by
  unfold State.busied; rw [State.showing_cfg]; split <;> rfl

@[simp] theorem State.hold_busied (r : InFlight) : (s.hold x r).busied k = (s.busied k).hold x r := by
  unfold State.busied; rw [State.hold_cfg]; split <;> rfl

/-- The link becomes Idle if it is buffered (R225 step D3). -/
def State.idled : State := if s.cfg.txMode k = .buffered then s.setTx k .idle else s

@[simp] theorem State.showing_idled (a : Result) : (s.showing x a).idled k = (s.idled k).showing x a := by
  unfold State.idled; rw [State.showing_cfg]; split <;> rfl

@[simp] theorem State.hold_idled (r : InFlight) : (s.hold x r).idled k = (s.idled k).hold x r := by
  unfold State.idled; rw [State.hold_cfg]; split <;> rfl

/-- The peripheral has taken a frame (R272). -/
def State.handed (f : Nat) : State :=
  s.setPeripheral k { s.peripheral k with sent := (s.peripheral k).sent ++ [f] }

@[simp] theorem State.showing_handed (a : Result) (f : Nat) :
    (s.showing x a).handed k f = (s.handed k f).showing x a := rfl

/-- What a LNK.WRITE that does not reach the hardware does when there is room: the frame is queued, and a buffered link that was
Idle becomes Busy (R221 steps T6 and T7). -/
def State.queued (f : Nat) : State :=
  let u := s.written (s.cfg.tx k) (.raw f)
  if s.tx k = .idle then u.busied k else u

@[simp] theorem State.showing_queued (a : Result) (f : Nat) :
    (s.showing x a).queued k f = (s.queued k f).showing x a := by
  simp only [State.queued, State.showing_tx, State.showing_cfg, State.showing_written, State.showing_busied]
  rw [apply_ite (State.showing · x a)]

theorem State.runMicro_lnkWrite_sent (hidle : s.tx k = .idle) (hacc : (s.peripheral k).accepts = true) :
    State.runMicro (microLnkWrite k) x 11 (s.hold x ⟨i, a0, a1, 1, w⟩) =
      .next (((s.handed k a0).busied k).leave x (.flag true)) := by
  unfold State.busied State.handed
  by_cases hmode : s.cfg.txMode k = .buffered <;>
    simp [State.runMicro_hold, microLnkWrite, State.hwXmit_eq, InFlight.at, hidle, hacc, hmode]

theorem State.runMicro_lnkWrite_full (hrefused : s.tx k = .busy ∨ (s.peripheral k).accepts = false)
    (hfull : s.full (s.cfg.tx k) = true) :
    State.runMicro (microLnkWrite k) x 11 (s.hold x ⟨i, a0, a1, 1, w⟩) = .next (s.leave x (.flag false)) := by
  cases htx : s.tx k with
  | busy => simp [State.runMicro_hold, microLnkWrite, InFlight.at, htx, hfull]
  | idle =>
    have hacc : (s.peripheral k).accepts = false := by simpa [htx] using hrefused
    simp [State.runMicro_hold, microLnkWrite, State.hwXmit_eq, InFlight.at, htx, hacc, hfull]

theorem State.runMicro_lnkWrite_queued (hrefused : s.tx k = .busy ∨ (s.peripheral k).accepts = false)
    (hroom : s.full (s.cfg.tx k) = false) :
    State.runMicro (microLnkWrite k) x 11 (s.hold x ⟨i, a0, a1, 1, w⟩) =
      .next ((s.queued k a0).leave x (.flag true)) := by
  cases htx : s.tx k with
  | busy =>
    simp [State.runMicro_hold, microLnkWrite, chWriteSub, Sub.andThen, InFlight.at, State.queued, State.written, htx,
      hroom]
  | idle =>
    have hacc : (s.peripheral k).accepts = false := by simpa [htx] using hrefused
    by_cases hmode : s.cfg.txMode k = .buffered <;>
      simp [State.runMicro_hold, microLnkWrite, chWriteSub, State.hwXmit_eq, Sub.andThen, InFlight.at, State.queued,
        State.written, State.busied, htx, hacc, hroom, hmode]

theorem State.runMicro_isrTxDone_empty (hempty : s.tail (s.cfg.tx k) = s.head (s.cfg.tx k)) :
    State.runMicro (microIsrTxDone k) x 8 (s.hold x ⟨i, a0, a1, 1, w⟩) = .next ((s.idled k).leave x .none) := by
  unfold State.idled
  by_cases hmode : s.cfg.txMode k = .buffered <;>
    simp [State.runMicro_hold, microIsrTxDone, isEmpty, InFlight.at, hempty, hmode]

theorem State.runMicro_isrTxDone_refused (hsome : s.tail (s.cfg.tx k) ≠ s.head (s.cfg.tx k))
    (hacc : (s.peripheral k).accepts = false) :
    State.runMicro (microIsrTxDone k) x 8 (s.hold x ⟨i, a0, a1, 1, w⟩) = .next (s.leave x .none) := by
  simp [State.runMicro_hold, microIsrTxDone, State.hwXmit_eq, isEmpty, InFlight.at, hsome, hacc]

/-- The oldest frame of a link's transmit channel, as the bits the peripheral gets (R225 step D4). -/
def State.oldestFrame : Nat :=
  (s.memRead (s.cfg.tx k) (s.head (s.cfg.tx k) % s.cfg.cap (s.cfg.tx k))).toBits s.cfg.payloadW

@[simp] theorem State.showing_oldestFrame (a : Result) : (s.showing x a).oldestFrame k = s.oldestFrame k := rfl

theorem State.runMicro_isrTxDone_sent (hsome : s.tail (s.cfg.tx k) ≠ s.head (s.cfg.tx k))
    (hacc : (s.peripheral k).accepts = true) :
    State.runMicro (microIsrTxDone k) x 8 (s.hold x ⟨i, a0, a1, 1, w⟩) =
      .next (((s.handed k (s.oldestFrame k)).removed (s.cfg.tx k)).leave x .none) := by
  simp [State.runMicro_hold, microIsrTxDone, State.hwXmit_eq, isEmpty, InFlight.at, hsome, hacc, State.removed,
    State.handed, State.oldestFrame]

/-- What LNK.CLEAR does to the registers (R224). -/
def State.linkEmptied : State :=
  let u := if s.cfg.hasRx k then s.emptied (s.cfg.rx k) else s
  if s.cfg.hasTx k then (u.emptied (s.cfg.tx k)).setTx k .idle else u

@[simp] theorem State.showing_linkEmptied (a : Result) :
    (s.showing x a).linkEmptied k = (s.linkEmptied k).showing x a := by
  unfold State.linkEmptied
  cases hrx : s.cfg.hasRx k <;> cases htx : s.cfg.hasTx k <;> simp [hrx, htx]

theorem State.runMicro_lnkClear :
    State.runMicro (microLnkClear k) x 5 (s.hold x ⟨i, a0, a1, 1, w⟩) = .next ((s.linkEmptied k).leave x .none) := by
  unfold State.linkEmptied
  cases hrx : s.cfg.hasRx k <;> cases htx : s.cfg.hasTx k <;>
    simp [State.runMicro_hold, microLnkClear, InFlight.at, State.emptied, hrx, htx]

end

/-! ### The whole operations, from acceptance to return -/

section
variable {s : State} {x : Ctx}

theorem exec_clkUpdate (h : s.verdict .clkUpdate = .accepted) (hx : s.req.src.ctx = x) :
    exec .clkUpdate s =
      .next ((((s.setEpoch (1 - s.idx) (rollover (s.slot s.idx).epoch (s.slot s.idx).last s.hwCounter)).setLast
        (1 - s.idx) s.hwCounter).setIdx (1 - s.idx)).leave x .none) :=
  exec_of_runMicro h hx ((State.runMicro_clkUpdate ..).trans (by simp))

theorem exec_clkReadMs (h : s.verdict .clkReadMs = .accepted) (hx : s.req.src.ctx = x) :
    exec .clkReadMs s = .next (s.leave x (.clock (millis s.reading))) :=
  exec_of_runMicro h hx ((State.runMicro_clkReadMs ..).trans (by simp))

variable {c k n : Nat}

theorem exec_tckCheck (h : s.verdict (.tckCheck n) = .accepted) (hx : s.req.src.ctx = x) :
    exec (.tckCheck n) s =
      .next ((if s.fires n then s.setExpiry n (s.expiryOf n + s.cfg.period n) else s).leave x (.flag (s.fires n))) := by
  refine exec_of_runMicro h hx ((State.runMicro_tckCheck ..).trans ?_)
  rw [show (s.showing x .none).fires n = s.fires n from rfl]
  split <;> simp

theorem exec_tckReset (h : s.verdict (.tckReset n) = .accepted) (hx : s.req.src.ctx = x) :
    exec (.tckReset n) s = .next ((s.setExpiry n (s.hwCounter + s.cfg.period n)).leave x .none) :=
  exec_of_runMicro h hx ((State.runMicro_tckReset ..).trans (by simp))

theorem exec_chWrite (h : s.verdict (.chWrite c) = .accepted) (hx : s.req.src.ctx = x) :
    exec (.chWrite c) s = .next ((s.written c (.raw (s.req.arg0 % 2 ^ s.cfg.elemW c))).leave x .none) :=
  exec_of_runMicro h hx ((State.runMicro_chWrite ..).trans (by simp [operand0]))

/-- CH.READ of a channel, under either of its names (R162, R191). -/
theorem exec_read {i : Instr}
    (hf : ∀ r q, microOf i r ((s.showing x .none).hold x q) = microChRead c r ((s.showing x .none).hold x q))
    (hn : wholeSteps s i = 5)
    (h : s.verdict i = .accepted) (hx : s.req.src.ctx = x) :
    exec i s = if s.tail c = s.head c then .fault (.readEmpty c) else .next ((s.removed c).leave x (s.oldest c)) :=
  exec_of_runMicro h hx (hn ▸ (State.runMicro_chRead (s.showing x .none) _ _ _ _ _ _ hf).trans (by simp))

theorem exec_chPeek (h : s.verdict (.chPeek c) = .accepted) (hx : s.req.src.ctx = x) :
    exec (.chPeek c) s = if s.tail c = s.head c then .fault (.peekEmpty c) else .next (s.leave x (s.oldest c)) :=
  exec_of_runMicro h hx ((State.runMicro_chPeek ..).trans (by simp))

theorem exec_chDiscard (h : s.verdict (.chDiscard c) = .accepted) (hx : s.req.src.ctx = x) :
    exec (.chDiscard c) s =
      if s.tail c = s.head c then .fault (.discardEmpty c) else .next ((s.removed c).leave x .none) :=
  exec_of_runMicro h hx ((State.runMicro_chDiscard ..).trans (by simp))

theorem exec_chClear (h : s.verdict (.chClear c) = .accepted) (hx : s.req.src.ctx = x) :
    exec (.chClear c) s = .next ((s.emptied c).leave x .none) :=
  exec_of_runMicro h hx ((State.runMicro_chClear ..).trans (by simp))

/-- CH.FULL of a channel, under any of its names (R166, R193, R223). -/
theorem exec_full {i : Instr}
    (hf : ∀ r q, microOf i r ((s.showing x .none).hold x q) = microChFull c r ((s.showing x .none).hold x q))
    (hn : wholeSteps s i = 2)
    (h : s.verdict i = .accepted) (hx : s.req.src.ctx = x) :
    exec i s = .next (s.leave x (.flag (s.full c))) :=
  exec_of_runMicro h hx (hn ▸ (State.runMicro_chFull (s.showing x .none) _ _ _ _ _ _ hf).trans (by simp))

/-- CH.EMPTY of a channel, under any of its names (R167, R192, R222). -/
theorem exec_empty {i : Instr}
    (hf : ∀ r q, microOf i r ((s.showing x .none).hold x q) = microChEmpty c r ((s.showing x .none).hold x q))
    (hn : wholeSteps s i = 2)
    (h : s.verdict i = .accepted) (hx : s.req.src.ctx = x) :
    exec i s = .next (s.leave x (.flag (isEmpty (s.tail c) (s.head c)))) :=
  exec_of_runMicro h hx (hn ▸ (State.runMicro_chEmpty (s.showing x .none) _ _ _ _ _ _ hf).trans (by simp))

theorem exec_isrErr {kind : ErrKind} (h : s.verdict (EventKind.handler k (.err kind)) = .accepted)
    (hx : s.req.src.ctx = x) :
    exec (EventKind.handler k (.err kind)) s =
      .next ((s.written (s.cfg.rx k) (.error (millis s.reading) kind)).leave x .none) := by
  refine exec_of_runMicro h hx ?_
  have hmicro : microOf (EventKind.handler k (.err kind)) = microIsrErr kind k := by cases kind <;> rfl
  have hn : wholeSteps s (EventKind.handler k (.err kind)) = 10 := by cases kind <;> rfl
  rw [hmicro, hn]
  exact (State.runMicro_isrErr ..).trans (by simp)

theorem exec_lnkClear (h : s.verdict (.lnkClear k) = .accepted) (hx : s.req.src.ctx = x) :
    exec (.lnkClear k) s = .next ((s.linkEmptied k).leave x .none) :=
  exec_of_runMicro h hx ((State.runMicro_lnkClear ..).trans (by simp))

/-- The three ends of LNK.WRITE (R221): to the hardware, failed, queued. -/
theorem exec_lnkWrite (h : s.verdict (.lnkWrite k) = .accepted) (hx : s.req.src.ctx = x) :
    let f := s.req.arg0 % 2 ^ s.cfg.frameW
    exec (.lnkWrite k) s =
      if s.tx k = .idle ∧ (s.peripheral k).accepts = true then .next (((s.handed k f).busied k).leave x (.flag true))
      else if s.full (s.cfg.tx k) then
        .next (s.leave x (.flag false))
      else .next ((s.queued k f).leave x (.flag true)) := by
  intro f
  refine exec_of_runMicro h hx ?_
  split
  · next hsent =>
    exact (State.runMicro_lnkWrite_sent (s.showing x .none) _ _ _ _ _ k hsent.1 hsent.2).trans
      (by simp [operand0, f])
  · next hsent =>
    have hrefused : s.tx k = .busy ∨ (s.peripheral k).accepts = false := by
      cases htx : s.tx k <;> simp_all
    split
    · next hfull => exact (State.runMicro_lnkWrite_full (s.showing x .none) _ _ _ _ _ k hrefused hfull).trans (by simp)
    · next hroom =>
      exact (State.runMicro_lnkWrite_queued (s.showing x .none) _ _ _ _ _ k hrefused (by simpa using hroom)).trans
        (by simp [operand0, f])

/-- The three ends of ISR.TXDONE (R225): nothing waits, refused, handed over. -/
theorem exec_isrTxDone (h : s.verdict (.isrTxDone k) = .accepted) (hx : s.req.src.ctx = x) :
    exec (.isrTxDone k) s =
      if s.tail (s.cfg.tx k) = s.head (s.cfg.tx k) then .next ((s.idled k).leave x .none)
      else if (s.peripheral k).accepts = true then
        .next (((s.handed k (s.oldestFrame k)).removed (s.cfg.tx k)).leave x .none)
      else .next (s.leave x .none) := by
  refine exec_of_runMicro h hx ?_
  split
  · next hempty => exact (State.runMicro_isrTxDone_empty (s.showing x .none) _ _ _ _ _ k hempty).trans (by simp)
  · next hsome =>
    split
    · next hacc => exact (State.runMicro_isrTxDone_sent (s.showing x .none) _ _ _ _ _ k hsome hacc).trans (by simp)
    · next hacc =>
      exact (State.runMicro_isrTxDone_refused (s.showing x .none) _ _ _ _ _ k hsome (by simpa using hacc)).trans
        (by simp)

end

end Sys2Proof.Machine

namespace Sys2Proof.Machine

/-! ## The registers after a whole operation, written out -/

theorem modify_congr_getElem? {α : Type} {l : List α} {c : Nat} {f g : α → α} (h : ∀ a, l[c]? = some a → f a = g a) :
    l.modify c f = l.modify c g := by
  refine List.ext_getElem? fun n => ?_
  simp only [List.getElem?_modify]
  by_cases hn : c = n
  · subst hn
    cases ha : l[c]? with
    | none => rfl
    | some a => simp [h a ha]
  · simp [hn]

section
variable (s : State) (c : Nat)

theorem State.chan_of_getElem? {ch : Chan} (h : s.chans[c]? = some ch) : s.chan c = ch := by
  simp [State.chan, List.getD_eq_getElem?_getD, h]

theorem State.written_eq (v : Elem) :
    s.written c v = { s with
      chans := if s.occupancy c = s.cfg.cap c then s.chans
        else s.chans.modify c fun ch => { ch with
          store := ch.store.set (ch.tail % s.cfg.cap c) v
          tail := (ch.tail + 1) % (2 * s.cfg.cap c) } } := by
  unfold State.written
  simp only [isFull_iff, ← show s.occupancy c = occ (s.cfg.cap c) (s.tail c) (s.head c) from rfl]
  split
  · rfl
  · simp only [State.setTail, State.memWrite, List.modify_modify_eq]
    congr 1
    refine modify_congr_getElem? fun ch hch => ?_
    rw [State.tail, State.chan_of_getElem? s c hch]
    rfl

theorem State.removed_eq :
    s.removed c = { s with chans := s.chans.modify c fun ch => { ch with head := (ch.head + 1) % (2 * s.cfg.cap c) } } := by
  unfold State.removed State.setHead
  congr 1
  refine modify_congr_getElem? fun ch hch => ?_
  rw [State.head, State.chan_of_getElem? s c hch]
  rfl

theorem State.busied_eq (k : Nat) :
    s.busied k = { s with txState := if s.cfg.txMode k = .buffered then s.txState.set k .busy else s.txState } := by
  unfold State.busied; split <;> rfl

theorem State.idled_eq (k : Nat) :
    s.idled k = { s with txState := if s.cfg.txMode k = .buffered then s.txState.set k .idle else s.txState } := by
  unfold State.idled; split <;> rfl

theorem State.queued_eq (k f : Nat) :
    s.queued k f = { s.written (s.cfg.tx k) (.raw f) with
      txState := if s.cfg.txMode k = .buffered ∧ s.tx k = .idle then s.txState.set k .busy else s.txState } := by
  simp only [State.queued, State.busied_eq, State.written_eq]
  by_cases hidle : s.tx k = .idle <;> simp [hidle]

theorem State.emptied_eq :
    s.emptied c = { s with chans := s.chans.modify c fun ch => { ch with head := 0, tail := 0 } } := by
  simp only [State.emptied, State.setTail, State.setHead, List.modify_modify_eq]
  rfl

end

/-- The context of a request on a port, and of the dispatcher (R260, R264). -/
theorem State.ctx_of_port {s : State} {x : Ctx} (hx : s.req.src = .port x) : s.req.src.ctx = x := by rw [hx]; rfl

theorem State.ctx_of_dispatcher {s : State} (hx : s.req.src = .dispatcher) : s.req.src.ctx = .irq := by rw [hx]; rfl

/-! ## The reading as the statements write it (30_encoding.md R97, 40_clock.md R122) -/

theorem State.reading_eq_readingNat (s : State) : s.reading.toNat = s.readingNat := by
  rw [State.reading, clockValue_toNat, rollover_toNat, State.hwCounter_toNat]
  rfl

theorem State.readingMs_eq (s : State) : s.readingMs = millis s.reading := by
  apply BitVec.eq_of_toNat_eq
  have hlt := s.reading.isLt
  rw [State.readingMs, millis_toNat, State.reading_eq_readingNat, BitVec.toNat_ofNat,
    Nat.mod_eq_of_lt (by rw [← State.reading_eq_readingNat]; omega)]

/-- The predicate of a ticker as the statements write it (R142). -/
theorem State.fires_eq (s : State) (t : Nat) :
    s.fires t = decide (Past s.cfg.tHalf (s.tau % 2 ^ 32) (s.expiry.getD t 0).toNat) := by
  rw [Bool.eq_iff_iff, State.fires, timePast_iff, decide_eq_true_iff, State.hwCounter_toNat]
  rfl

/-! ## The clock and the tickers -/

/-- The stores U5 and U6, as the two fields of one slot (R120). -/
theorem State.setEpoch_setLast (s : State) (j : BitVec 1) (e : Epoch) (l : Micros) :
    (s.setEpoch j e).setLast j l = { s with
      slot0 := if j = 0 then ⟨e, l⟩ else s.slot0, slot1 := if j = 0 then s.slot1 else ⟨e, l⟩ } := by
  unfold State.setEpoch State.setLast
  split <;> rfl

theorem other_slot_eq_zero_iff (i : BitVec 1) : 1 - i = 0 ↔ ¬ i = 0 := by revert i; decide

/-- Settles O19. -/
theorem clkUpdateEffect : Obligations.ClkUpdateEffect := by
  intro s hx sample cur other
  have hv : s.verdict .clkUpdate = .accepted :=
    State.verdict_port hx rfl (by simp [Instr.portAllows]) (by simp [Instr.uses])
  rw [exec_clkUpdate hv (State.ctx_of_port hx), State.setEpoch_setLast]
  simp only [other_slot_eq_zero_iff, ite_not]
  rfl

/-- Settles O21. -/
theorem clkReadMsEffect : Obligations.ClkReadMsEffect := by
  intro s x hx
  have hv : s.verdict .clkReadMs = .accepted := State.verdict_port hx rfl rfl (by simp [Instr.uses])
  rw [exec_clkReadMs hv (State.ctx_of_port hx), Result.clock, millis_toNat, State.reading_eq_readingNat]
  rfl

section
variable {s : State} {t : Nat}

/-- The owner's request for its ticker is accepted (R266). -/
theorem State.verdict_owner {i : Instr} (hi : i = .tckCheck t ∨ i = .tckReset t) (ht : t < s.cfg.nTck)
    (hx : s.req.src = .port (s.cfg.tck t).owner) : s.verdict i = .accepted := by
  rcases hi with rfl | rfl <;>
    exact State.verdict_port hx (by simpa [Instr.legal] using ht) (by simp [Instr.portAllows]) (by simp [Instr.uses])

theorem exec_tckCheck_owner (ht : t < s.cfg.nTck) (hx : s.req.src = .port (s.cfg.tck t).owner) :
    exec (.tckCheck t) s = .next (State.leave
      (if s.fires t then s.setExpiry t (s.expiryOf t + s.cfg.period t) else s) (s.cfg.tck t).owner (.flag (s.fires t))) :=
  exec_tckCheck (State.verdict_owner (.inl rfl) ht hx) (State.ctx_of_port hx)

theorem exec_tckReset_owner (ht : t < s.cfg.nTck) (hx : s.req.src = .port (s.cfg.tck t).owner) :
    exec (.tckReset t) s =
      .next ((s.setExpiry t (s.hwCounter + s.cfg.period t)).leave (s.cfg.tck t).owner .none) :=
  exec_tckReset (State.verdict_owner (.inr rfl) ht hx) (State.ctx_of_port hx)

end

/-- Settles O29. -/
theorem tckCheckEffect : Obligations.TckCheckEffect := by
  intro s t ht hx e fires
  rw [exec_tckCheck_owner ht hx, State.fires_eq]
  by_cases h : fires <;> simp only [fires, e] at h <;> simp only [h, fires, e] <;> rfl

/-- Settles O30. -/
theorem tckResetEffect : Obligations.TckResetEffect := fun _ _ ht hx => exec_tckReset_owner ht hx

/-! ## Stand-alone channels -/

section
variable {s : State} {c : Nat} {x : Ctx}

/-- A channel operation by a context that may issue it, with no clear of the channel in flight, is accepted (R266, R165). -/
theorem State.verdict_channel {i : Instr} (hx : s.req.src = .port x) (legal : i.legal s.cfg = true)
    (role : i.portAllows s.cfg x = true) (uses : i.uses s.cfg = [c]) (quiet : x = .irq → c ∉ s.clearing) :
    s.verdict i = .accepted :=
  State.verdict_port hx legal role fun h d hd => by
    rw [uses] at hd
    rw [List.mem_singleton.mp hd]
    exact quiet h

end

/-- Settles O33. -/
theorem chWriteEffect : Obligations.ChWriteEffect := by
  intro s c hc hk hx quiet
  have hv : s.verdict (.chWrite c) = .accepted := State.verdict_channel hx (by simpa [Instr.legal] using hc)
    (by simp [Instr.portAllows, Params.standAlone, hk]) rfl quiet
  rw [exec_chWrite hv (State.ctx_of_port hx), State.written_eq]
  rfl

/-- Settles O34. -/
theorem chReadEffect : Obligations.ChReadEffect := by
  intro s c hc hk hx quiet
  have hv : s.verdict (.chRead c) = .accepted := State.verdict_channel hx (by simpa [Instr.legal] using hc)
    (by simp [Instr.portAllows, Params.standAlone, hk]) rfl quiet
  rw [exec_read (fun _ _ => rfl) rfl hv (State.ctx_of_port hx), State.removed_eq]
  exact ⟨fun h => if_pos h, fun h => if_neg h⟩

/-- Settles O35. -/
theorem chPeekEffect : Obligations.ChPeekEffect := by
  intro s c hc hk hx quiet
  have hv : s.verdict (.chPeek c) = .accepted := State.verdict_channel hx (by simpa [Instr.legal] using hc)
    (by simp [Instr.portAllows, Params.standAlone, hk]) rfl quiet
  rw [exec_chPeek hv (State.ctx_of_port hx)]
  exact ⟨fun h => if_pos h, fun h => if_neg h⟩

/-- Settles O36. -/
theorem chDiscardEffect : Obligations.ChDiscardEffect := by
  intro s c hc hk hx quiet
  have hv : s.verdict (.chDiscard c) = .accepted := State.verdict_channel hx (by simpa [Instr.legal] using hc)
    (by simp [Instr.portAllows, Params.standAlone, hk]) rfl quiet
  rw [exec_chDiscard hv (State.ctx_of_port hx), State.removed_eq]
  exact ⟨fun h => if_pos h, fun h => if_neg h⟩

/-- Settles O37. -/
theorem chClearEffect : Obligations.ChClearEffect := by
  intro s c hc hk hx
  have hv : s.verdict (.chClear c) = .accepted := State.verdict_channel hx (by simpa [Instr.legal] using hc)
    (by simp [Instr.portAllows, Params.standAlone, hk]) rfl (by simp)
  rw [exec_chClear hv (State.ctx_of_port hx), State.emptied_eq]
  rfl

/-- Settles O38. -/
theorem chFullEmptyEffect : Obligations.ChFullEmptyEffect := by
  intro s c x hc hk hx role quiet
  have legal : (Instr.chFull c).legal s.cfg = true := by simpa [Instr.legal] using hc
  have role : (Instr.chFull c).portAllows s.cfg x = true := by simpa [Instr.portAllows, Params.standAlone, hk] using role
  have hfull : s.verdict (.chFull c) = .accepted := State.verdict_channel hx legal role rfl quiet
  have hempty : s.verdict (.chEmpty c) = .accepted := State.verdict_channel hx legal role rfl quiet
  rw [exec_full (c := c) (fun _ _ => rfl) rfl hfull (State.ctx_of_port hx),
    exec_empty (c := c) (fun _ _ => rfl) rfl hempty (State.ctx_of_port hx)]
  exact ⟨rfl, rfl⟩

/-! ## Links -/

/-- Settles O41. -/
theorem lnkReadEffect : Obligations.LnkReadEffect := by
  intro s k hk side hx c
  have hv : s.verdict (.lnkRead k) = .accepted :=
    State.verdict_port hx (by simp [Instr.legal, hk, side]) rfl (by simp)
  rw [exec_read (c := c) (fun _ _ => rfl) rfl hv (State.ctx_of_port hx), State.removed_eq]
  exact ⟨fun h => if_pos h, fun h => if_neg h⟩

/-- Settles O42. -/
theorem linkFlagsEffect : Obligations.LinkFlagsEffect := by
  intro s k hk hx answers
  have accepted {i : Instr} (legal : i.legal s.cfg = true) (role : i.portAllows s.cfg .fg = true) :
      s.verdict i = .accepted := State.verdict_port hx legal role (by simp)
  have hctx : s.req.src.ctx = .fg := State.ctx_of_port hx
  refine ⟨fun side => ⟨?_, ?_⟩, fun side => ⟨?_, ?_⟩⟩
  · exact exec_empty (fun _ _ => rfl) rfl (accepted (by simp [Instr.legal, hk, side]) rfl) hctx
  · exact exec_full (fun _ _ => rfl) rfl (accepted (by simp [Instr.legal, hk, side]) rfl) hctx
  · exact exec_empty (fun _ _ => rfl) rfl (accepted (by simp [Instr.legal, hk, side]) rfl) hctx
  · exact exec_full (fun _ _ => rfl) rfl (accepted (by simp [Instr.legal, hk, side]) rfl) hctx

theorem uses_handler_err (p : Params) (k : Nat) (kind : ErrKind) :
    (EventKind.handler k (.err kind)).uses p = [p.rx k] := by cases kind <;> rfl

theorem legal_handler_err (p : Params) (k : Nat) (kind : ErrKind) :
    (EventKind.handler k (.err kind)).legal p = (decide (k < p.nLnk) && p.hasRx k && p.timestamp k) := by
  cases kind <;> rfl

theorem event_handler (k : Nat) (ev : EventKind) : (ev.handler k).event = some (k, ev) := by
  cases ev with
  | err kind => cases kind <;> rfl
  | _ => rfl

/-- Settles O45. -/
theorem isrErrEffect : Obligations.IsrErrEffect := by
  intro s k kind hk side ts hx quiet c
  have hv : s.verdict (EventKind.handler k (.err kind)) = .accepted :=
    State.verdict_dispatcher hx (by simp [legal_handler_err, hk, side, ts]) (by simp [event_handler])
      (by simpa [uses_handler_err] using quiet)
  rw [exec_isrErr hv (State.ctx_of_dispatcher hx), State.written_eq, ← State.readingMs_eq]
  rfl

/-- Settles O46: the three ends of LNK.WRITE. -/
theorem lnkWriteEffect : Obligations.LnkWriteEffect := by
  intro s k hk side hx c f h ends
  have hv : s.verdict (.lnkWrite k) = .accepted :=
    State.verdict_port hx (by simp [Instr.legal, hk, side]) rfl (by simp)
  have hexec := exec_lnkWrite hv (State.ctx_of_port hx)
  simp only [State.busied_eq, State.queued_eq, State.written_eq] at hexec
  refine ⟨fun hidle hacc => hexec.trans (if_pos ⟨hidle, hacc⟩), fun hrefused hfull => ?full, fun hrefused hroom => ?queued⟩
  all_goals
    have hnot : ¬ (s.tx k = .idle ∧ (s.peripheral k).accepts = true) := by
      rintro ⟨hidle, hacc⟩
      rcases hrefused with hbusy | hno
      · rw [hidle] at hbusy; cases hbusy
      · exact absurd (hacc.symm.trans hno) (by decide)
    rw [if_neg hnot] at hexec
  case full => exact hexec.trans (if_pos (isFull_iff.mpr hfull))
  case queued =>
    rw [if_neg (mt isFull_iff.mp hroom), if_neg hroom] at hexec
    exact hexec

/-- Settles O47: the three ends of ISR.TXDONE. -/
theorem isrTxDoneEffect : Obligations.IsrTxDoneEffect := by
  intro s k hk side hx quiet c h ends
  have hv : s.verdict (.isrTxDone k) = .accepted :=
    State.verdict_dispatcher hx (by simp [Instr.legal, hk, side]) rfl (by simpa [Instr.uses] using quiet)
  have hexec := exec_isrTxDone hv (State.ctx_of_dispatcher hx)
  rw [State.idled_eq, State.removed_eq] at hexec
  refine ⟨fun hempty => hexec.trans (if_pos hempty), fun hsome hacc => (hexec.trans (if_neg hsome)).trans (if_neg ?_),
    fun hsome hacc => (hexec.trans (if_neg hsome)).trans (if_pos hacc)⟩
  rw [show (s.peripheral k).accepts = false from hacc]
  decide

/-- Settles O48. -/
theorem lnkClearEffect : Obligations.LnkClearEffect := by
  intro s k hk hx emptied
  have hv : s.verdict (.lnkClear k) = .accepted := State.verdict_port hx (by simpa [Instr.legal] using hk) rfl (by simp)
  rw [exec_lnkClear hv (State.ctx_of_port hx)]
  unfold State.linkEmptied
  cases hrx : s.cfg.hasRx k <;> cases htx : s.cfg.hasTx k <;> simp only [State.emptied_eq, emptied] <;> rfl

end Sys2Proof.Machine

namespace Sys2Proof

section
variable {p : Params} {x : Ctx} {i : Instr} {m : Nat}

/-- Only the link's own operations take part in its transmit channel (10_state.md R41, 60_exceptions.md R266). -/
theorem Instr.admitted.uses_tx (h : i.admitted p x) (hp : p.wf = true) (hm : m < p.nLnk) (side : p.hasTx m = true)
    (hc : p.tx m ∈ i.fills p ∨ p.tx m ∈ i.drains p ∨ p.tx m ∈ i.clears p) :
    i = .lnkWrite m ∨ i = .lnkClear m ∨ i = .isrTxDone m := by
  obtain ⟨legal, role⟩ := h
  have hkind := Params.kind_tx hp hm side
  have owned := Params.tx_mem_owned side
  have same {k : Nat} (hk : k < p.nLnk) (hc : p.tx m ∈ (p.link k).owned) : k = m :=
    Params.owner_unique hp hk hm hc owned
  have not_rx {k : Nat} (hk : k < p.nLnk) (sideK : p.hasRx k = true) : p.tx m ≠ p.rx k := by
    intro he
    rw [he, Params.kind_rx hp hk sideK] at hkind
    split at hkind <;> cases hkind
  cases i
  case chWrite c | chRead c | chDiscard c | chClear c =>
    simp only [Instr.fills, Instr.drains, Instr.clears, List.mem_singleton, List.not_mem_nil, or_false, false_or] at hc
    simp [Instr.portAllows, Params.standAlone, ← hc, hkind, Instr.event] at role
  case lnkWrite k | isrTxDone k =>
    simp only [Instr.legal, Bool.and_eq_true, decide_eq_true_eq] at legal
    simp only [Instr.fills, Instr.drains, Instr.clears, List.mem_singleton, List.not_mem_nil, or_false, false_or] at hc
    simp [same legal.1 (hc ▸ Params.tx_mem_owned legal.2)]
  case lnkClear k =>
    simp only [Instr.legal, decide_eq_true_eq] at legal
    simp only [Instr.fills, Instr.drains, Instr.clears, List.not_mem_nil, false_or] at hc
    simp [same legal hc]
  case lnkRead k | isrRx k =>
    simp only [Instr.legal, Bool.and_eq_true, decide_eq_true_eq] at legal
    simp only [Instr.fills, Instr.drains, Instr.clears, List.mem_singleton, List.not_mem_nil, or_false, false_or] at hc
    exact absurd hc (not_rx legal.1 legal.2)
  case isrErrWarn k | isrErrOvf k | isrErrWake k | isrErrPassive k | isrErrArb k | isrErrBus k =>
    simp only [Instr.legal, Bool.and_eq_true, decide_eq_true_eq] at legal
    simp only [Instr.fills, Instr.drains, Instr.clears, List.mem_singleton, List.not_mem_nil, or_false] at hc
    exact absurd hc (not_rx legal.1.1 legal.1.2)
  all_goals simp [Instr.fills, Instr.drains, Instr.clears] at hc

end

end Sys2Proof

namespace Sys2Proof.Machine

/-! ## The faults of a whole operation (60_exceptions.md R250) -/

/-- A run of micro-steps stops only with a fault of its operation. -/
theorem State.runMicro_fault {i : Instr} {x : Ctx} {f : Fault} {n : Nat} {s : State}
    (hi : ∀ r, s.inflight.get x = some r → r.instr = i) (h : State.runMicro (microOf i) x n s = .fault f) :
    f ∈ faultsOf s.cfg i := by
  induction n generalizing s with
  | zero => cases h
  | succ n ih =>
    rw [State.runMicro] at h
    cases hr : s.inflight.get x with
    | none => simp [hr] at h
    | some r =>
      obtain rfl := hi r hr
      simp only [hr] at h
      cases hm : s.microStep (microOf r.instr) x r with
      | refused e => simp [hm] at h
      | next s' =>
        rw [hm] at h
        obtain ⟨u, houter, -, ⟨r', -, hr', -, rfl⟩ | ⟨res, -, rfl⟩⟩ := State.microStep_does hm
        · rw [← show (u.hold x r').cfg = s.cfg from houter.cfg]
          exact ih (by simp [hr']) h
        · rw [← show (u.leave x res).cfg = s.cfg from houter.cfg]
          exact ih (by simp) h
      | fault e =>
        rw [hm] at h
        cases h
        have does := microOf_does r s
        unfold State.microStep at hm
        cases hf : microOf r.instr r s <;> rw [hf] at hm does <;> cases hm
        exact does

/-- Settles O17: an operation may fault only as `faultsOf` says, and then by the four operations' own effects only when the channel
is empty; or it met a clear. -/
theorem onlyTheseFaults : Obligations.OnlyTheseFaults := by
  intro s i f h
  cases hv : s.verdict i with
  | refused code => rw [exec_eq_perform, State.perform, hv] at h; cases h
  | busy c =>
    rw [exec_eq_perform, State.perform_busy hv] at h
    cases h
    have hbusy : s.busyChannel i = some c := by
      unfold State.verdict at hv
      cases hr : s.refusal i with
      | some code => simp [hr] at hv
      | none => cases hb : s.busyChannel i <;> simp_all
    unfold State.busyChannel at hbusy
    cases hx : s.req.src.ctx with
    | fg => simp [hx] at hbusy
    | irq =>
      rw [hx] at hbusy
      exact .inr ⟨c, rfl, rfl, List.mem_of_find?_eq_some hbusy, by simpa using List.find?_some hbusy⟩
  | accepted =>
    have hrun := h
    rw [exec_accepted hv rfl] at hrun
    have hf := State.runMicro_fault (by simp) hrun
    have empty {c : Nat} {o : Host.Outcome State Fault Refusal} {t : State}
        (he : exec i s = if s.tail c = s.head c then o else .next t) : s.tail c = s.head c := by
      by_contra hne
      rw [if_neg hne, h] at he
      cases he
    refine .inl ?_
    cases i
    case chRead c =>
      exact ⟨c, empty (exec_read (c := c) (fun _ _ => rfl) rfl hv rfl), .inl ⟨rfl, List.mem_singleton.mp hf⟩⟩
    case chPeek c => exact ⟨c, empty (exec_chPeek hv rfl), .inr (.inl ⟨rfl, List.mem_singleton.mp hf⟩)⟩
    case chDiscard c =>
      exact ⟨c, empty (exec_chDiscard hv rfl), .inr (.inr (.inl ⟨rfl, List.mem_singleton.mp hf⟩))⟩
    case lnkRead k =>
      exact ⟨s.cfg.rx k, empty (exec_read (c := s.cfg.rx k) (fun _ _ => rfl) rfl hv rfl),
        .inr (.inr (.inr ⟨k, rfl, rfl, List.mem_singleton.mp hf⟩))⟩
    all_goals cases hf

/-! ## The FIFO law of whole operations (42_channel.md R168) -/

section
variable {s : State} {c : Nat}

theorem State.contents_written (hs : s.channelSound c) (v : Elem) :
    (s.written c v).contents c = if (s.contents c).length = s.cfg.cap c then s.contents c else s.contents c ++ [v] := by
  rw [State.contents_length, State.written]
  simp only [isFull_iff, ← show s.occupancy c = occ (s.cfg.cap c) (s.tail c) (s.head c) from rfl]
  split
  · rfl
  · next hne =>
    have hle : s.occupancy c ≤ s.cfg.cap c := hs.2.2.2.2
    exact State.contents_append hs (by omega) v

theorem State.contents_emptied (hs : s.channelSound c) : (s.emptied c).contents c = [] := by
  obtain ⟨hlen, hcap, -⟩ := hs
  have htail : (s.emptied c).tail c = 0 := State.setTail_tail_self _ _ (by simpa using hlen)
  have hhead : (s.emptied c).head c = 0 := by simp [State.emptied, State.setHead_head, hlen]
  refine State.contents_empty ?_ (htail.trans hhead.symm)
  rw [hhead]
  show 0 < 2 * s.cfg.cap c
  omega

/-- A channel that shows an element is not empty, and its consumer sees that element and leaves the rest. -/
theorem State.contents_cons (hs : s.channelSound c) {e : Elem} {rest : List Elem} (h : s.contents c = e :: rest) :
    s.tail c ≠ s.head c ∧ (s.removed c).contents c = rest ∧
      s.oldest c = .res (s.cfg.elemW c) (e.toBits s.cfg.payloadW) := by
  have hsome : s.tail c ≠ s.head c := by
    intro he
    rw [State.contents_empty hs.2.2.2.1.1 he] at h
    cases h
  rw [State.contents_remove hs hsome] at h
  cases h
  exact ⟨hsome, rfl, rfl⟩

end

/-- Settles O39. -/
theorem channelFifoLaw : Obligations.ChannelFifoLaw := by
  intro s c hs
  have accepted {i : Instr} (h : s.mayStart i) : s.verdict i = .accepted := (s.verdict_accepted_iff_mayStart i).mpr h
  refine ⟨fun h => ⟨_, exec_chWrite (accepted h) rfl, ?_⟩, fun e rest hcont => ?_, fun h =>
    ⟨_, exec_chClear (accepted h) rfl, ?_⟩⟩
  · rw [State.leave_contents, State.contents_written hs]
  · obtain ⟨hsome, hrest, hres⟩ := State.contents_cons hs hcont
    refine ⟨fun h => ⟨_, (exec_read (c := c) (fun _ _ => rfl) rfl (accepted h) rfl).trans (if_neg hsome), ?_, ?_⟩,
      fun h => ⟨_, (exec_chPeek (accepted h) rfl).trans (if_neg hsome), ?_, ?_⟩,
      fun h => ⟨_, (exec_chDiscard (accepted h) rfl).trans (if_neg hsome), ?_⟩⟩
    · rw [State.leave_contents, hrest]
    · rw [State.leave_result, PerCtx.get_set_same, hres]
    · rw [State.leave_contents, hcont]
    · rw [State.leave_result, PerCtx.get_set_same, hres]
    · rw [State.leave_contents, hrest]
  · rw [State.leave_contents, State.contents_emptied hs]

/-! ## No uninterrupted operation strands a frame (44_link_tx.md R227) -/

section
variable {i : Instr} {s t : State} {m : Nat}

theorem exec_tx (h : exec i s = .next t) (hi : ¬ (i = .lnkWrite m ∨ i = .lnkClear m ∨ i = .isrTxDone m)) :
    t.tx m = s.tx m := by
  refine exec_keeps (P := fun u => u.tx m = s.tx m) h
    (fun u v hreg _ hu => by unfold State.tx at *; rwa [hreg.txState]) (fun r u v hr _ hw hu => ?_) rfl
  subst hr
  cases hw
  case tx k v who _ =>
    have hne : k ≠ m := by rintro rfl; exact hi who
    simpa [State.setTx_tx, hne] using hu
  all_goals simpa using hu

theorem State.busied_tx (hm : m < s.txState.length) (hmode : s.cfg.txMode m = .buffered) : (s.busied m).tx m = .busy := by
  rw [State.busied, if_pos hmode, State.setTx_tx, if_pos ⟨rfl, hm⟩]

/-- Each operation of a buffered link leaves it Busy, or with no frame waiting, if it was so before. -/
theorem exec_own_link (hs : s.Sound) (hm : m < s.cfg.nLnk) (side : s.cfg.hasTx m = true)
    (hmode : s.cfg.txMode m = .buffered) (hv : s.verdict i = .accepted) (h : exec i s = .next t)
    (hi : i = .lnkWrite m ∨ i = .lnkClear m ∨ i = .isrTxDone m)
    (waiting : s.tail (s.cfg.tx m) ≠ s.head (s.cfg.tx m) → s.tx m = .busy) :
    t.tail (s.cfg.tx m) ≠ t.head (s.cfg.tx m) → t.tx m = .busy := by
  have htx : m < s.txState.length := by rw [hs.shape.2.2.1]; exact hm
  rcases hi with rfl | rfl | rfl
  · rw [exec_lnkWrite hv rfl] at h
    split at h
    · cases h
      exact fun _ => State.busied_tx htx hmode
    · split at h
      · cases h
        exact waiting
      · cases h
        intro _
        rw [State.leave_tx]
        have hwritten (v : Elem) : (s.written (s.cfg.tx m) v).txState = s.txState ∧
            (s.written (s.cfg.tx m) v).cfg = s.cfg := by
          rw [State.written_eq]; exact ⟨rfl, rfl⟩
        obtain ⟨hsame, hcfg⟩ := hwritten (.raw (s.req.arg0 % 2 ^ s.cfg.frameW))
        unfold State.queued
        split
        · exact State.busied_tx (by rw [hsame]; exact htx) (by rw [hcfg]; exact hmode)
        · next hbusy =>
          rw [State.tx, hsame]
          cases hb : s.tx m with
          | idle => exact absurd hb hbusy
          | busy => exact hb
  · rw [exec_lnkClear hv rfl] at h
    cases h
    intro hne
    refine absurd ?_ hne
    have hlt : s.cfg.tx m < s.chans.length := by
      rw [hs.shape.chans_length]; exact Params.owned_lt hs.params hm (Params.tx_mem_owned side)
    have emptied (u : State) (hu : s.cfg.tx m < u.chans.length) :
        (u.emptied (s.cfg.tx m)).tail (s.cfg.tx m) = (u.emptied (s.cfg.tx m)).head (s.cfg.tx m) := by
      simp [State.emptied, State.setHead_head, State.setTail_tail, hu]
    rw [State.leave_tail, State.leave_head, State.linkEmptied, if_pos side, State.setTx_tail, State.setTx_head]
    refine emptied _ ?_
    split
    · simpa [State.emptied] using hlt
    · exact hlt
  · rw [exec_isrTxDone hv rfl] at h
    split at h
    · next hempty =>
      cases h
      intro hne
      rw [State.idled_eq] at hne
      exact absurd hempty hne
    · next hsome =>
      have hbusy := waiting hsome
      split at h <;> cases h <;> exact fun _ => hbusy

end

/-- Settles O51: the link's own operations keep it, and no other operation touches its channel or its state. -/
theorem uninterruptedLinkStaysBusy : Obligations.UninterruptedLinkStaysBusy := by
  intro s t i hs _ hwait h
  obtain ⟨code, -, rfl⟩ | ⟨hv, -⟩ := exec_next h
  · exact hwait
  intro m hm side hmode
  rw [exec_cfg h] at hm side hmode ⊢
  by_cases hi : i = .lnkWrite m ∨ i = .lnkClear m ∨ i = .isrTxDone m
  · exact exec_own_link hs hm side hmode hv h hi (hwait m hm side hmode)
  · have admitted := ((s.verdict_accepted_iff_mayStart i).mp hv).admitted
    have apart := mt (admitted.uses_tx hs.params hm side) hi
    rw [exec_tx h hi, exec_tail h (fun hc => apart (.inl hc)) fun hc => apart (.inr (.inr hc)),
      exec_head h (fun hc => apart (.inr (.inl hc))) fun hc => apart (.inr (.inr hc))]
    exact hwait m hm side hmode

end Sys2Proof.Machine

namespace Sys2Proof.Machine

/-! ## The clock and true time (10_state.md R24, 40_clock.md R123, R124) -/

section
variable {s t : State} {u : Nat}

/-- The reading over the true time `u` that the published slot stands for: the rollover count of `u`, one more when the counter has
passed below the low half of `u` since (R121, R125). -/
theorem State.clockAt.reading_toNat (h : s.clockAt u) :
    s.reading.toNat =
      (if s.tau % 2 ^ 32 < u % 2 ^ 32 then (u / 2 ^ 32 % 2 ^ 32 + 1) % 2 ^ 32 else u / 2 ^ 32 % 2 ^ 32) * 2 ^ 32 +
        s.tau % 2 ^ 32 := by
  obtain ⟨hlast, hepoch⟩ := h
  rw [State.reading, clockValue_toNat, rollover_toNat, State.hwCounter_toNat, hlast, hepoch, BitVec.toNat_ofNat,
    BitVec.toNat_ofNat]

/-- R123, first case. -/
theorem State.clockAt.reading_eq (h : s.clockAt u) (hle : u ≤ s.tau) (hgap : s.tau - u < 2 ^ 32) :
    s.reading.toNat = s.tau % 2 ^ 64 := by
  rw [h.reading_toNat]
  split <;> omega

/-- R123, second case: the wraps that the reading has missed. -/
theorem State.clockAt.reading_late (h : s.clockAt u) (hgap : u + 2 ^ 32 ≤ s.tau) (hlt : s.tau < 2 ^ 64) :
    ∃ m, 1 ≤ m ∧ s.reading.toNat + m * 2 ^ 32 = s.tau := by
  rw [h.reading_toNat]
  split
  · exact ⟨s.tau / 2 ^ 32 - (u / 2 ^ 32 + 1), by omega, by omega⟩
  · exact ⟨s.tau / 2 ^ 32 - u / 2 ^ 32, by omega, by omega⟩

end

/-- Settles O22. -/
theorem readReturnsTrueTime : Obligations.ReadReturnsTrueTime := by
  intro s x u hx hat hle hgap
  refine ⟨_, exec_clkRead hx, ?_⟩
  rw [State.leave_result, PerCtx.get_set_same, Result.clock, hat.reading_eq hle hgap]

/-- Settles O23. -/
theorem lateReadTooSmall : Obligations.LateReadTooSmall := by
  intro s x u hx hat hgap hlt
  obtain ⟨m, hm, hsum⟩ := hat.reading_late hgap hlt
  refine ⟨_, s.reading.toNat, m, exec_clkRead hx, ?_, hm, hsum⟩
  rw [State.leave_result, PerCtx.get_set_same, Result.clock]

/-- The clock after a whole CLK.UPDATE: the other slot is published, with the counted wrap and the sample (R120). -/
def State.clockUpdated (s : State) : State :=
  ((s.setEpoch (1 - s.idx) (rollover (s.slot s.idx).epoch (s.slot s.idx).last s.hwCounter)).setLast (1 - s.idx)
    s.hwCounter).setIdx (1 - s.idx)

theorem State.clockUpdated_slot (s : State) :
    s.clockUpdated.slot s.clockUpdated.idx =
      ⟨rollover (s.slot s.idx).epoch (s.slot s.idx).last s.hwCounter, s.hwCounter⟩ := by
  simp only [State.clockUpdated, State.setIdx_idx, State.setIdx_slot, State.setLast_slot_self, State.setEpoch_slot_self]

/-- R24 after an update within the interval. -/
theorem State.clockAt.updated {s : State} {u : Nat} (h : s.clockAt u) (hle : u ≤ s.tau) (hgap : s.tau - u < 2 ^ 32) :
    s.clockUpdated.clockAt s.tau := by
  obtain ⟨hlast, hepoch⟩ := h
  rw [State.clockAt, State.clockUpdated_slot]
  refine ⟨rfl, BitVec.eq_of_toNat_eq ?_⟩
  rw [rollover_toNat, State.hwCounter_toNat, hlast, hepoch]
  simp only [BitVec.toNat_ofNat]
  split <;> omega

theorem exec_clkUpdate_port {s : State} (hx : s.req.src = .port s.cfg.clkUpdater) :
    exec .clkUpdate s = .next (s.clockUpdated.leave s.cfg.clkUpdater .none) :=
  exec_clkUpdate (State.verdict_port hx rfl (by simp [Instr.portAllows]) (by simp [Instr.uses]))
    (State.ctx_of_port hx)

/-- A store of a sound state's running operation leaves the published slot, or it is U7 and publishes the other, complete
(R23, R73, R126). -/
theorem InFlight.Wrote.published {s t : State} {x : Ctx} {r : InFlight} (hw : r.Wrote s t) (ok : s.inFlightOk x r) :
    (t.idx = s.idx ∧ t.slot s.idx = s.slot s.idx) ∨
      (r.instr = .clkUpdate ∧ r.ustep = 7 ∧ t = s.setIdx (1 - s.idx) ∧
        s.slot (1 - s.idx) = ⟨rollover (s.slot s.idx).epoch (s.slot s.idx).last r.temps.sample, r.temps.sample⟩) := by
  have knows (hr : r.instr = .clkUpdate) : s.updaterOk r.ustep r.temps := by
    have temps := ok.tempsOk
    simp only [State.tempsOk, hr] at temps
    exact temps.2
  cases hw
  case epoch who step =>
    rw [(knows who).1 (by omega), State.setEpoch_slot_other]
    exact .inl ⟨by simp, rfl⟩
  case last who step =>
    rw [(knows who).1 (by omega), State.setLast_slot_other]
    exact .inl ⟨by simp, rfl⟩
  case publish who step =>
    have h7 := step x ok
    obtain ⟨hcur, -, -, hepoch, hlast⟩ := knows who
    refine .inr ⟨who, h7, by rw [hcur (by omega)], ?_⟩
    rw [← hepoch (by omega), ← hlast (by omega)]
  all_goals exact .inl (by simp)

/-- A CLK.UPDATE in flight keeps the sample of U1. -/
theorem microClkUpdate_sample {r r' : InFlight} {s t : State} (h : microClkUpdate r s = .goto r' t) :
    r'.temps.sample = if r.ustep = 1 then BitVec.ofNat 32 s.tau else r.temps.sample := by
  unfold microClkUpdate at h
  dsimp only at h
  split at h <;> cases h <;> simp [*, State.hwCounter]

/-- Settles O24. -/
theorem updateKeepsClockTrue : Obligations.UpdateKeepsClockTrue := by
  refine ⟨fun s u hx hat hle hgap => ⟨_, exec_clkUpdate_port hx, hat.updated hle hgap⟩, fun s t hs h => ?_⟩
  obtain rfl | ⟨x, r, run, hm⟩ := State.advance_runs h
  · exact ⟨.inl ⟨rfl, rfl⟩, fun x r r' hr _ hr' => .inl (Option.some.inj (hr'.symm.trans hr))⟩
  have ok := hs.flight x r run.held
  obtain ⟨s', houter, hw, ht⟩ := State.microStep_does hm
  refine ⟨?_, fun y q q' hq hi hq' => ?_⟩
  · have hidx : t.idx = s'.idx := by obtain ⟨r', -, -, -, rfl⟩ | ⟨res, -, rfl⟩ := ht <;> rfl
    have hslot (j : BitVec 1) : t.slot j = s'.slot j := by obtain ⟨r', -, -, -, rfl⟩ | ⟨res, -, rfl⟩ := ht <;> rfl
    rw [hidx, hslot, hslot]
    obtain ⟨hi, hs⟩ | ⟨hr, h7, rfl, hother⟩ := hw.published ok
    · exact .inl ⟨hi, hs⟩
    · refine .inr ⟨x, r, run.held, hr, h7, ?_, rfl, rfl, hother⟩
      obtain ⟨r', hgoto, -⟩ | ⟨res, -, rfl⟩ := ht
      · rw [hr] at hgoto
        simp only [microOf, microClkUpdate, h7] at hgoto
        cases hgoto
      · simp
  · by_cases hy : y = x
    · subst hy
      obtain rfl : r = q := Option.some.inj (run.held.symm.trans hq)
      obtain ⟨r', hgoto, -, -, rfl⟩ | ⟨res, -, rfl⟩ := ht
      · obtain rfl : r' = q' := by simpa using hq'
        rw [hi] at hgoto
        exact .inr (microClkUpdate_sample hgoto)
      · simp at hq'
    · refine .inl (Option.some.inj (hq'.symm.trans (Eq.trans ?_ hq)))
      obtain ⟨r', -, -, -, rfl⟩ | ⟨res, -, rfl⟩ := ht <;> simp [PerCtx.get_set_ne _ hy, houter.inflight]

/-- Along a spaced sequence every reading is at least the time at which the sequence starts, and the readings do not decrease: the
induction behind R124. -/
theorem State.clockRun_monotone (ops : List (Nat × Option Ctx)) :
    ∀ (s : State) (u : Nat), s.clockAt u → u ≤ s.tau → clockSpaced u s.tau ops →
      ∃ readings, s.clockRun ops = some readings ∧ readings.Pairwise (· ≤ ·) ∧ ∀ v ∈ readings, s.tau ≤ v := by
  induction ops with
  | nil => exact fun s u _ _ _ => ⟨[], rfl, .nil, by simp⟩
  | cons op rest ih =>
    rintro s u hat hle ⟨hgap, hlt, hspaced⟩
    obtain ⟨us, reader⟩ := op
    cases reader with
    | none =>
      let s1 : State := { s with tau := s.tau + us, req := ⟨.port s.cfg.clkUpdater, 0, 0⟩ }
      have hat1 : s1.clockAt u := hat
      have hle1 : u ≤ s1.tau := by show u ≤ s.tau + us; omega
      obtain ⟨readings, hrun, hpair, hbound⟩ :=
        ih (s1.clockUpdated.leave s.cfg.clkUpdater .none) s1.tau (hat1.updated hle1 hgap)
          (by simp [State.clockUpdated]) (by simpa [State.clockUpdated] using hspaced)
      refine ⟨readings, ?_, hpair, fun v hv => ?_⟩
      · rw [State.clockRun, show exec .clkUpdate s1 = _ from exec_clkUpdate_port rfl]
        exact hrun
      · have := hbound v hv
        simp only [State.leave_tau, State.clockUpdated, State.setIdx_tau, State.setLast_tau, State.setEpoch_tau] at this
        exact (Nat.le_add_right _ us).trans this
    | some x =>
      let s1 : State := { s with tau := s.tau + us, req := ⟨.port x, 0, 0⟩ }
      have hat1 : s1.clockAt u := hat
      have hle1 : u ≤ s1.tau := by show u ≤ s.tau + us; omega
      have hres : Result.clock s1.reading = .res 64 (s.tau + us) := by
        rw [Result.clock, hat1.reading_eq hle1 hgap]
        exact congrArg _ (Nat.mod_eq_of_lt hlt)
      obtain ⟨readings, hrun, hpair, hbound⟩ :=
        ih (s1.leave x (.clock s1.reading)) u hat1 hle1 (by simpa using hspaced)
      refine ⟨(s.tau + us) :: readings, ?_, List.pairwise_cons.mpr ⟨hbound, hpair⟩, ?_⟩
      · rw [State.clockRun, show exec .clkRead s1 = _ from exec_clkRead rfl]
        rw [hres] at hrun
        simp only [State.leave_result, PerCtx.get_set_same, hres, hrun]
        rfl
      · simp only [List.mem_cons, forall_eq_or_imp]
        exact ⟨Nat.le_add_right _ us, fun v hv => (Nat.le_add_right _ us).trans (hbound v hv)⟩

/-- Settles O25. -/
theorem readingsNeverDecrease : Obligations.ReadingsNeverDecrease := by
  intro ops s u hat hle hspaced
  obtain ⟨readings, hrun, hpair, -⟩ := State.clockRun_monotone ops s u hat hle hspaced
  exact ⟨readings, hrun, hpair⟩

/-! ## The comparator by distance (41_deadline.md R141) -/

/-- The cyclic forward distance, by which operand is larger. -/
theorem distance_toNat (cur ref : Micros) :
    (cur - ref).toNat =
      if ref.toNat ≤ cur.toNat then cur.toNat - ref.toNat else 2 ^ 32 - (ref.toNat - cur.toNat) := by
  have := cur.isLt
  have := ref.isLt
  rw [BitVec.toNat_sub]
  split <;> omega

/-- Settles O28: the listed values are computed, the rest is arithmetic on the two cases of the predicate. -/
theorem timePastByDistance : Obligations.TimePastByDistance := by
  intro cur ref d
  have hcur := cur.isLt
  have href := ref.isLt
  have hd : d = _ := distance_toNat cur ref
  have next : (cur + 1).toNat = (cur.toNat + 1) % 2 ^ 32 := by simp [BitVec.toNat_add]
  refine ⟨fun h hh => ⟨fun hlt => ?above, fun hlt => ⟨?value, ?below⟩, ?equal⟩, ?half, ?after, ?before, by decide,
    by decide, by decide, by decide, by decide, by decide, by decide⟩
  case above =>
    rw [BitVec.lt_def] at hlt
    rw [timePast_iff, hd, if_pos (by omega)]
    omega
  case value =>
    rw [BitVec.lt_def] at hlt
    rw [distance_toNat ref cur, hd, if_neg (by omega), if_pos (by omega)]
  case below =>
    rw [BitVec.lt_def] at hlt
    rw [timePast_iff, hd, if_neg (by omega)]
    omega
  case equal => simp [timePast]
  case half =>
    rw [timePast_iff, hd]
    split <;> omega
  case after =>
    rw [timePast_iff, next]
    omega
  case before =>
    rw [Bool.eq_false_iff, Ne, timePast_iff, next]
    omega

/-! ## The tickers over time (41_deadline.md R144, R146) -/

section
variable {s : State} {t : Nat}

theorem State.setExpiry_getD (s : State) {t : Nat} (ht : t < s.expiry.length) (v : Micros) :
    (s.setExpiry t v).expiry.getD t 0 = v := by
  rw [State.setExpiry_expiry, getD_set, if_pos ⟨rfl, ht⟩]

/-- A check adds one period if it fires, and reports it (R142, R144). -/
theorem exec_tckCheck_expiry (ht : t < s.cfg.nTck) (hlen : t < s.expiry.length)
    (hx : s.req.src = .port (s.cfg.tck t).owner) :
    ∃ s', exec (.tckCheck t) s = .next s' ∧ s'.cfg = s.cfg ∧ s'.req = s.req ∧ s'.expiry.length = s.expiry.length ∧
      s'.result.get s.req.src.ctx = .flag (s.fires t) ∧
      s'.expiry.getD t 0 = s.expiry.getD t 0 + if s.fires t then (s.cfg.tck t).period else 0 := by
  refine ⟨_, exec_tckCheck_owner ht hx, ?_, ?_, ?_, ?_, ?_⟩
  · split <;> rfl
  · split <;> rfl
  · split <;> simp
  · rw [State.ctx_of_port hx]
    simp
  · rw [State.leave_expiry]
    split
    · exact State.setExpiry_getD s hlen _
    · simp

/-- R144 along any sequence of checks: each one that fires has added one period. -/
theorem State.poll_expiry (gaps : List Nat) :
    ∀ s : State, t < s.cfg.nTck → t < s.expiry.length → s.req.src = .port (s.cfg.tck t).owner →
      ∃ s' n, s.poll t gaps = some (s', n) ∧ n ≤ gaps.length ∧
        s'.expiry.getD t 0 = s.expiry.getD t 0 + BitVec.ofNat 32 n * (s.cfg.tck t).period := by
  induction gaps with
  | nil => exact fun s _ _ _ => ⟨s, 0, rfl, le_rfl, by simp⟩
  | cons us rest ih =>
    intro s ht hlen hx
    obtain ⟨s1, hexec, hcfg, hreq, hlen1, hflag, hadd⟩ :=
      exec_tckCheck_expiry (s := { s with tau := s.tau + us }) ht hlen hx
    obtain ⟨s', n, hpoll, hn, hsum⟩ :=
      ih s1 (by rw [hcfg]; exact ht) (by rw [hlen1]; exact hlen) (by rw [hcfg, hreq]; exact hx)
    refine ⟨s', n + if s1.result.get s.req.src.ctx = .flag true then 1 else 0, ?_, ?_, ?_⟩
    · rw [State.poll, hexec]
      simp only [hpoll]
      rfl
    · rw [List.length_cons]
      split <;> omega
    · rw [hsum, hadd, hcfg, hflag]
      cases State.fires { s with tau := s.tau + us } t with
      | true =>
        rw [if_pos rfl, if_pos rfl, BitVec.ofNat_add, BitVec.add_mul, BitVec.one_mul]
        ac_rfl
      | false => simp

/-- What a TCK.RESET leaves for the checks that follow it (R143). -/
theorem exec_tckReset_next {s0 : State} (ht : t < s.cfg.nTck) (hlen : t < s.expiry.length)
    (hx : s.req.src = .port (s.cfg.tck t).owner) (h : exec (.tckReset t) s = .next s0) :
    s0.cfg = s.cfg ∧ s0.req = s.req ∧ s0.tau = s.tau ∧ s0.expiry.length = s.expiry.length ∧
      s0.expiry.getD t 0 = BitVec.ofNat 32 s.tau + (s.cfg.tck t).period := by
  rw [exec_tckReset_owner ht hx] at h
  cases h
  exact ⟨rfl, rfl, rfl, by simp, State.setExpiry_getD s hlen _⟩

end

/-- Settles O31. -/
theorem tickerNeverDrifts : Obligations.TickerNeverDrifts := by
  intro s s0 t gaps ht hlen hx h
  obtain ⟨hcfg, hreq, -, hlen0, -⟩ := exec_tckReset_next ht hlen hx h
  have := State.poll_expiry gaps s0 (by rw [hcfg]; exact ht) (by rw [hlen0]; exact hlen) (by rw [hcfg, hreq]; exact hx)
  rwa [hcfg] at this

/-- Settles O32. -/
theorem periodOutsideRange : Obligations.PeriodOutsideRange := by
  intro s s0 t ht hlen hx
  refine ⟨fun hwrap h => ?reset, fun hzero => ?period0⟩
  case reset =>
    obtain ⟨hcfg, hreq, htau, hlen0, hexp⟩ := exec_tckReset_next ht hlen hx h
    obtain ⟨s1, hexec, -, -, -, hflag, -⟩ := exec_tckCheck_expiry (s := s0) (by rw [hcfg]; exact ht)
      (by rw [hlen0]; exact hlen) (by rw [hcfg, hreq]; exact hx)
    refine ⟨s1, hexec, ?_⟩
    rw [hreq, State.ctx_of_port hx] at hflag
    rw [hflag, State.fires_eq, hexp, hcfg, htau, BitVec.toNat_add, BitVec.toNat_ofNat, Nat.mod_eq_of_lt hwrap]
    congr 1
    rw [decide_eq_decide]
    unfold Past
    omega
  case period0 =>
    refine ⟨_, exec_tckCheck_owner ht hx, ?_⟩
    have hsame : s.expiryOf t + s.cfg.period t = s.expiry[t] := by
      rw [show s.cfg.period t = 0 from hzero, State.expiryOf, List.getD_eq_getElem _ _ hlen]
      simp
    rw [State.leave_expiry]
    split
    · rw [State.setExpiry_expiry, hsame, List.set_getElem_self]
    · rfl

end Sys2Proof.Machine

namespace Sys2Proof.Machine

/-! ## Nothing in flight reads the script (00_scope.md section 5) -/

/-- `s` with `l` as the moves that the environment is still to make. -/
def State.scripted (l : List Move) (s : State) : State := { s with script := l }

section
variable (l : List Move)

@[simp] theorem State.scripted_inflight (s : State) : (s.scripted l).inflight = s.inflight := rfl

/-! The stores that choose a slot or look at a peripheral; every other store commutes with the script by `rfl`. -/

theorem State.scripted_setEpoch (s : State) (i : BitVec 1) (e : Epoch) :
    (s.scripted l).setEpoch i e = (s.setEpoch i e).scripted l := by
  unfold State.setEpoch; split <;> rfl

theorem State.scripted_setLast (s : State) (i : BitVec 1) (v : Micros) :
    (s.scripted l).setLast i v = (s.setLast i v).scripted l := by
  unfold State.setLast; split <;> rfl

theorem State.scripted_hwRecv (s : State) (k : Nat) :
    (s.scripted l).hwRecv k = (s.hwRecv k).map fun p => (p.1, p.2.scripted l) := by
  cases h : (s.peripheral k).rxq with
  | nil => rw [State.hwRecv_nil h, State.hwRecv_nil (s := s.scripted l) h]; rfl
  | cons f rest => rw [State.hwRecv_cons h, State.hwRecv_cons (s := s.scripted l) h]; rfl

theorem State.scripted_hwXmit (s : State) (k f : Nat) :
    (s.scripted l).hwXmit k f = ((s.hwXmit k f).1, (s.hwXmit k f).2.scripted l) := by
  rw [State.hwXmit_eq_onPeripheral, State.hwXmit_eq_onPeripheral, apply_ite Prod.fst, apply_ite Prod.snd]
  show (if (s.peripheral k).accepts then _ else _) = _
  split <;> rfl

theorem State.scripted_residue (s : State) (k : Nat) : (s.scripted l).residue k = (s.residue k).scripted l := by
  unfold State.residue
  show (match s.cfg.rxResidue with | .discard => _ | .retain => _) = _
  cases s.cfg.rxResidue <;> rfl

/-! The called operations, and then the operations. What needs an argument is a branch that ends in two states. -/

theorem clkReadSub_scripted (j : Nat) (t : Temps) (s : State) :
    clkReadSub j t (s.scripted l) = (clkReadSub j t s).mapState (.scripted l) := by
  unfold clkReadSub; split <;> rfl

theorem chWriteSub_scripted (c : Nat) (v : Elem) (j : Nat) (t : Temps) (s : State) :
    chWriteSub c v j t (s.scripted l) = (chWriteSub c v j t s).mapState (.scripted l) := by
  unfold chWriteSub
  split
  case h_3 => rw [apply_ite (Sub.mapState _)]; rfl
  all_goals rfl

theorem chReadSub_scripted (c j : Nat) (t : Temps) (s : State) :
    chReadSub c j t (s.scripted l) = (chReadSub c j t s).mapState (.scripted l) := by
  unfold chReadSub
  split
  case h_3 => rw [apply_ite (Sub.mapState _)]; rfl
  all_goals rfl

theorem chPeekSub_scripted (c j : Nat) (t : Temps) (s : State) :
    chPeekSub c j t (s.scripted l) = (chPeekSub c j t s).mapState (.scripted l) := by
  unfold chPeekSub
  split
  case h_3 => rw [apply_ite (Sub.mapState _)]; rfl
  all_goals rfl

theorem chDiscardSub_scripted (c j : Nat) (t : Temps) (s : State) :
    chDiscardSub c j t (s.scripted l) = (chDiscardSub c j t s).mapState (.scripted l) := by
  unfold chDiscardSub
  split
  case h_3 => rw [apply_ite (Sub.mapState _)]; rfl
  all_goals rfl

theorem chClearSub_scripted (c j : Nat) (t : Temps) (s : State) :
    chClearSub c j t (s.scripted l) = (chClearSub c j t s).mapState (.scripted l) := by
  unfold chClearSub; split <;> rfl

theorem cursorsSub_scripted (c j : Nat) (t : Temps) (s : State) :
    cursorsSub c j t (s.scripted l) = (cursorsSub c j t s).mapState (.scripted l) := by
  unfold cursorsSub; split <;> rfl

theorem microClkUpdate_scripted (r : InFlight) (s : State) :
    microClkUpdate r (s.scripted l) = (microClkUpdate r s).mapState (.scripted l) := by
  unfold microClkUpdate
  dsimp only
  split
  case h_5 => rw [State.scripted_setEpoch]; rfl
  case h_6 => rw [State.scripted_setLast]; rfl
  all_goals rfl

theorem microTckCheck_scripted (n : Nat) (r : InFlight) (s : State) :
    microTckCheck n r (s.scripted l) = (microTckCheck n r s).mapState (.scripted l) := by
  unfold microTckCheck
  split
  · rfl
  · rw [Micro.mapState, apply_ite (State.scripted l)]; rfl
  · exact Sub.andThen_mapState (clkReadSub_scripted ..) fun _ _ => rfl

theorem microTckReset_scripted (n : Nat) (r : InFlight) (s : State) :
    microTckReset n r (s.scripted l) = (microTckReset n r s).mapState (.scripted l) := by
  unfold microTckReset
  split
  · rfl
  · exact Sub.andThen_mapState (clkReadSub_scripted ..) fun _ _ => rfl

theorem microIsrErr_scripted (kind : ErrKind) (k : Nat) (r : InFlight) (s : State) :
    microIsrErr kind k r (s.scripted l) = (microIsrErr kind k r s).mapState (.scripted l) := by
  unfold microIsrErr
  split
  · exact Sub.andThen_mapState (clkReadSub_scripted ..) fun _ _ => rfl
  · exact Sub.andThen_mapState (chWriteSub_scripted ..) fun _ _ => rfl

theorem microIsrRx_scripted (k : Nat) (r : InFlight) (s : State) :
    microIsrRx k r (s.scripted l) = (microIsrRx k r s).mapState (.scripted l) := by
  unfold microIsrRx
  dsimp only
  split
  case h_3 => rw [State.scripted_hwRecv]; cases s.hwRecv k <;> rfl
  case h_4 => rw [State.scripted_residue]; rfl
  case h_5 =>
    split
    · show (if s.cfg.timestamp k = true then _ else _) = _
      split
      · exact Sub.andThen_mapState (clkReadSub_scripted ..) fun _ _ => rfl
      · rfl
    · exact Sub.andThen_mapState (chWriteSub_scripted ..) fun _ _ => rfl
  all_goals rfl

theorem microLnkWrite_scripted (k : Nat) (r : InFlight) (s : State) :
    microLnkWrite k r (s.scripted l) = (microLnkWrite k r s).mapState (.scripted l) := by
  unfold microLnkWrite
  dsimp only
  split
  case h_2 => rw [State.scripted_hwXmit]; rfl
  case h_3 => rw [Micro.mapState, apply_ite (State.scripted l)]; rfl
  case h_5 => rw [apply_ite (Micro.mapState _)]; rfl
  case h_6 => rw [Micro.mapState, apply_ite (State.scripted l)]; rfl
  case h_7 => exact Sub.andThen_mapState (chWriteSub_scripted ..) fun _ _ => rfl
  all_goals rfl

theorem microLnkClear_scripted (k : Nat) (r : InFlight) (s : State) :
    microLnkClear k r (s.scripted l) = (microLnkClear k r s).mapState (.scripted l) := by
  unfold microLnkClear
  dsimp only
  split <;> (rw [Micro.mapState, apply_ite (State.scripted l)]; rfl)

theorem microIsrTxDone_scripted (k : Nat) (r : InFlight) (s : State) :
    microIsrTxDone k r (s.scripted l) = (microIsrTxDone k r s).mapState (.scripted l) := by
  unfold microIsrTxDone
  dsimp only
  split
  case h_3 => rw [Micro.mapState, apply_ite (State.scripted l)]; rfl
  case h_5 => rw [State.scripted_hwXmit, apply_ite (Micro.mapState _)]; rfl
  all_goals rfl

/-- No micro-step of any operation depends on the moves still to come, or changes them. -/
theorem microOf_scripted (i : Instr) (r : InFlight) (s : State) :
    microOf i r (s.scripted l) = (microOf i r s).mapState (.scripted l) := by
  cases i with
  | clkUpdate => exact microClkUpdate_scripted l r s
  | clkRead | clkReadMs => exact Sub.andThen_mapState (clkReadSub_scripted ..) fun _ _ => rfl
  | tckCheck t => exact microTckCheck_scripted l t r s
  | tckReset t => exact microTckReset_scripted l t r s
  | timePast => rfl
  | chWrite c => exact Sub.andThen_mapState (chWriteSub_scripted ..) fun _ _ => rfl
  | chRead | lnkRead => exact Sub.andThen_mapState (chReadSub_scripted ..) fun _ _ => rfl
  | chPeek c => exact Sub.andThen_mapState (chPeekSub_scripted ..) fun _ _ => rfl
  | chDiscard c => exact Sub.andThen_mapState (chDiscardSub_scripted ..) fun _ _ => rfl
  | chClear c => exact Sub.andThen_mapState (chClearSub_scripted ..) fun _ _ => rfl
  | chFull | chEmpty | lnkRxEmpty | lnkRxFull | lnkTxEmpty | lnkTxFull =>
    exact Sub.andThen_mapState (cursorsSub_scripted ..) fun _ _ => rfl
  | lnkWrite k => exact microLnkWrite_scripted l k r s
  | lnkClear k => exact microLnkClear_scripted l k r s
  | isrRx k => exact microIsrRx_scripted l k r s
  | isrTxDone k => exact microIsrTxDone_scripted l k r s
  | isrErrWarn k | isrErrOvf k | isrErrWake k | isrErrPassive k | isrErrArb k | isrErrBus k =>
    exact microIsrErr_scripted l _ k r s

theorem State.microStep_scripted (i : Instr) (x : Ctx) (r : InFlight) (s : State) :
    (s.scripted l).microStep (microOf i) x r = mapNext (.scripted l) (s.microStep (microOf i) x r) := by
  unfold State.microStep
  rw [microOf_scripted]
  cases microOf i r s <;> rfl

theorem State.runMicro_scripted (i : Instr) (x : Ctx) (n : Nat) (s : State) :
    State.runMicro (microOf i) x n (s.scripted l) = mapNext (.scripted l) (State.runMicro (microOf i) x n s) := by
  induction n generalizing s with
  | zero => rfl
  | succ n ih =>
    rw [State.runMicro, State.runMicro, State.scripted_inflight]
    cases s.inflight.get x with
    | none => rfl
    | some r =>
      dsimp only
      rw [State.microStep_scripted]
      cases s.microStep (microOf i) x r with
      | next t => exact ih t
      | fault e => rfl
      | refused e => rfl

end

/-! ## Runs of the machine -/

/-- `n` steps. -/
def State.run (n : Nat) (s : State) : Host.Outcome State Fault Refusal := Sys2Proof.core.run n s

/-- `n` steps after an outcome. -/
def thenRun (n : Nat) : Host.Outcome State Fault Refusal → Host.Outcome State Fault Refusal
  | .next s => s.run n
  | .fault e => .fault e
  | .refused e => .refused e

theorem State.run_zero (s : State) : s.run 0 = .next s := rfl

theorem State.run_of_step {s : State} {o : Host.Outcome State Fault Refusal} (n : Nat) (h : step s = o) :
    s.run (n + 1) = thenRun n o := by
  have hcore : Sys2Proof.core.step s = o := h
  simp only [State.run, Host.Core.run, hcore]
  cases o <;> rfl

theorem State.run_succ (n : Nat) (s : State) : s.run (n + 1) = thenRun n (step s) := State.run_of_step n rfl

/-- `m` steps for the operation in flight, and then the moves `l`. -/
def advances (m : Nat) (l : List Move) : List Move := List.replicate m .advance ++ l

/-- One step of a script that gives the operation in flight in `x` its next micro-step. -/
theorem State.run_advance {s : State} {x : Ctx} {r : InFlight} {n : Nat} {l : List Move} (hr : s.inflight.get x = some r)
    (hirq : x = .fg → s.inflight.irq = none) :
    (s.scripted (.advance :: l)).run (n + 1) = thenRun n (mapNext (.scripted l) (s.microStep (microOf r.instr) x r)) := by
  rw [State.run_succ, step_move (m := .advance) (rest := l) rfl]
  show thenRun n ((s.scripted l).advance) = _
  rw [State.advance_running (s := s.scripted l) hr hirq, State.microStep_scripted]

/-- Micro-steps of the operation in flight in `x`, taken one step at a time, end where the same run whole ends. -/
theorem State.run_advances (i : Instr) (x : Ctx) (l : List Move) (n : Nat) (s : State)
    (hi : ∀ r, s.inflight.get x = some r → r.instr = i) (hirq : x = .fg → s.inflight.irq = none) :
    ∃ m, (s.scripted (advances m l)).run m = mapNext (.scripted l) (State.runMicro (microOf i) x n s) := by
  induction n generalizing s with
  | zero => exact ⟨0, rfl⟩
  | succ n ih =>
    cases hr : s.inflight.get x with
    | none => exact ⟨0, by rw [State.runMicro_none hr]; rfl⟩
    | some r =>
      obtain rfl := hi r hr
      rw [State.runMicro, hr]
      dsimp only
      cases hm : s.microStep (microOf r.instr) x r with
      | fault e => exact ⟨1, (State.run_advance hr hirq).trans (by rw [hm]; rfl)⟩
      | refused e => exact ⟨1, (State.run_advance hr hirq).trans (by rw [hm]; rfl)⟩
      | next t =>
        obtain ⟨s', houter, -, ht⟩ := State.microStep_does hm
        have hi' (q : InFlight) (hq : t.inflight.get x = some q) : q.instr = r.instr := by
          obtain ⟨r', -, heq, -, rfl⟩ | ⟨res, -, rfl⟩ := ht
          · obtain rfl : r' = q := by simpa using hq
            exact heq
          · simp at hq
        have hirq' (hx : x = .fg) : t.inflight.irq = none := by
          subst hx
          have hs' : s'.inflight.irq = none := houter.inflight ▸ hirq rfl
          obtain ⟨r', -, -, -, rfl⟩ | ⟨res, -, rfl⟩ := ht <;> exact hs'
        obtain ⟨m, hrun⟩ := ih t hi' hirq'
        exact ⟨m + 1, (State.run_advance hr hirq).trans (by rw [hm]; exact hrun)⟩

/-- An operation that is held and given its micro-steps ends as the same one run whole. -/
theorem State.issue_eq_exec (s : State) (i : Instr) (l : List Move) (hirq : s.req.src.ctx = .fg → s.inflight.irq = none) :
    ∃ m, thenRun m ((s.scripted (advances m l)).issue i) = exec i (s.scripted l) := by
  have hverdict (q : List Move) : (s.scripted q).verdict i = s.verdict i := rfl
  rw [exec_eq_perform, State.perform]
  simp only [State.issue, hverdict]
  cases s.verdict i with
  | refused code => exact ⟨0, rfl⟩
  | busy c => exact ⟨0, rfl⟩
  | accepted =>
    obtain ⟨m, hrun⟩ := State.run_advances i s.req.src.ctx l (wholeSteps s i) (s.enter i)
      (fun r hr => by
        obtain rfl : _ = r := by simpa [State.enter] using hr
        rfl)
      (fun hx => by simpa [State.enter, hx] using hirq hx)
    exact ⟨m, hrun.trans (State.runMicro_scripted l i _ _ (s.enter i)).symm⟩

theorem step_scripted_request {s : State} {x : Ctx} (hready : s.ready x = true) (whole : Bool) (w : CmdWord) (a0 a1 : Nat)
    (l : List Move) :
    step (s.scripted (.request whole x w a0 a1 :: l)) = (s.scripted l).command whole ⟨.port x, a0, a1⟩ w :=
  step_request (s := s.scripted _) hready rfl

theorem step_scripted_event {s : State} (hready : s.ready .irq = true) (whole : Bool) (k : Nat) (ev : EventKind)
    (l : List Move) : step (s.scripted (.event whole k ev :: l)) = (s.scripted l).serve whole k ev :=
  step_event (s := s.scripted _) hready rfl

/-- Settles O11. -/
theorem heldRunEqualsWholeRun : Obligations.HeldRunEqualsWholeRun := by
  refine ⟨fun s x w a0 a1 rest hready => ?request, fun s k ev rest hready => ?event⟩
  case request =>
    show ∃ n, State.run (n + 1) (s.scripted (.request false x w a0 a1 :: advances n rest)) =
      step (s.scripted (.request true x w a0 a1 :: rest))
    simp only [State.run_succ, step_scripted_request hready]
    cases hw : decode w with
    | error e => exact ⟨0, by simp only [State.command_of_decode_error hw]; rfl⟩
    | ok i =>
      simp only [State.command_of_decode_ok hw]
      exact State.issue_eq_exec { s with req := ⟨.port x, a0, a1⟩ } i rest fun _ => ((s.ready_iff x).mp hready).1
  case event =>
    show ∃ n, State.run (n + 1) (s.scripted (.event false k ev :: advances n rest)) =
      step (s.scripted (.event true k ev :: rest))
    simp only [State.run_succ, step_scripted_event hready, State.serve]
    cases hev : s.cfg.attached k ev with
    | false => exact ⟨0, by simp [State.scripted, hev, advances, thenRun, State.run_zero]⟩
    | true =>
      obtain ⟨m, h⟩ := State.issue_eq_exec { s with req := ⟨.dispatcher, 0, 0⟩ } (ev.handler k) rest nofun
      exact ⟨m, by simp only [State.scripted, hev, if_true]; exact h⟩

end Sys2Proof.Machine

namespace Sys2Proof.Machine

/-! ## Runs that mix held operations with moves -/

/-- A request of `x` on its ports, with nothing shown on its result port (R92, R93). -/
def State.requested (s : State) (x : Ctx) (a0 a1 : Nat) : State :=
  State.showing { s with req := ⟨.port x, a0, a1⟩ } x .none

theorem State.run_held {s : State} {x : Ctx} {i : Instr} (hready : s.ready x = true) (hwf : i.wf = true) {a0 a1 : Nat}
    (hv : State.verdict { s with req := ⟨.port x, a0, a1⟩ } i = .accepted) (n : Nat) (l : List Move) :
    (s.scripted (.request false x (encode i) a0 a1 :: l)).run (n + 1) =
      (((s.requested x a0 a1).hold x ⟨i, operand0 s.cfg i a0, operand1 i a1, 1, {}⟩).scripted l).run n := by
  have hissue : State.issue { s.scripted l with req := ⟨.port x, a0, a1⟩ } i =
      .next (((s.requested x a0 a1).hold x ⟨i, operand0 s.cfg i a0, operand1 i a1, 1, {}⟩).scripted l) := by
    have hv' : State.verdict { s.scripted l with req := ⟨.port x, a0, a1⟩ } i = .accepted := hv
    rw [State.issue, hv']
    rfl
  rw [State.run_succ, step_scripted_request hready, State.command_of_decode_ok (decode_encode hwf), State.start,
    if_neg (by decide), hissue]
  rfl

theorem State.run_whole {s : State} {x : Ctx} {i : Instr} (hready : s.ready x = true) (hwf : i.wf = true) (a0 a1 n : Nat)
    (l : List Move) :
    (s.scripted (.request true x (encode i) a0 a1 :: l)).run (n + 1) =
      thenRun n (exec i { s.scripted l with req := ⟨.port x, a0, a1⟩ }) := by
  rw [State.run_succ, step_scripted_request hready, State.command_of_decode_ok (decode_encode hwf), State.start, if_pos rfl]

theorem State.run_elapse (s : State) (us n : Nat) (l : List Move) :
    (s.scripted (.elapse us :: l)).run (n + 1) = (State.scripted l { s with tau := s.tau + us }).run n := by
  rw [State.run_succ, step_move (m := .elapse us) (rest := l) rfl]
  rfl

/-- A micro-step that goes on. -/
theorem State.run_goto {s s' : State} {x : Ctx} {r r' : InFlight} (hirq : x = .fg → s.inflight.irq = none)
    (h : microOf r.instr r (s.hold x r) = .goto r' (s'.hold x r)) (n : Nat) (l : List Move) :
    ((s.hold x r).scripted (.advance :: l)).run (n + 1) = ((s'.hold x r').scripted l).run n := by
  have hirq' : x = .fg → (s.hold x r).inflight.irq = none := by
    rintro rfl
    exact hirq rfl
  rw [State.run_advance (r := r) (by simp) hirq', State.microStep_goto h, State.hold_hold]
  rfl

/-- With no move left, the foreground's operation takes its micro-steps to its end. -/
theorem State.run_foreground (i : Instr) (n : Nat) (s : State) (hirq : s.inflight.irq = none)
    (hi : ∀ r, s.inflight.get .fg = some r → r.instr = i) :
    (s.scripted []).run n = State.runMicro (microOf i) .fg n (s.scripted []) := by
  induction n generalizing s with
  | zero => rfl
  | succ n ih =>
    have hadvance : step (s.scripted []) = (s.scripted []).advance := rfl
    rw [State.run_succ, hadvance]
    cases hr : s.inflight.get .fg with
    | none =>
      have hwait : (s.scripted []).advance = .next (s.scripted []) := by
        simp only [State.advance, State.scripted_inflight, hirq, show s.inflight.fg = none from hr]
      rw [hwait, State.runMicro_none (s := s.scripted []) hr]
      exact (ih s hirq hi).trans (State.runMicro_none (s := s.scripted []) hr)
    | some r =>
      obtain rfl := hi r hr
      rw [State.advance_running (s := s.scripted []) hr fun _ => hirq, State.runMicro, State.scripted_inflight, hr]
      dsimp only
      rw [State.microStep_scripted]
      cases hm : s.microStep (microOf r.instr) .fg r with
      | fault e => rfl
      | refused e => rfl
      | next t =>
        obtain ⟨s', houter, -, ht⟩ := State.microStep_does hm
        have hs' : s'.inflight.irq = none := by rw [houter.inflight, hirq]
        obtain ⟨r', -, heq, -, rfl⟩ | ⟨res, -, rfl⟩ := ht
        · refine ih _ hs' fun q hq => ?_
          obtain rfl : r' = q := by simpa using hq
          exact heq
        · exact ih _ hs' fun q hq => by simp at hq

theorem State.hold_self {s : State} {x : Ctx} {r : InFlight} (h : s.inflight.get x = some r) : s.hold x r = s := by
  cases x <;> simp only [State.hold, PerCtx.set, ← h] <;> rfl

theorem State.scripted_self {s : State} {l : List Move} (h : s.script = l) : s.scripted l = s := by
  subst h; rfl

/-- The foreground's operation, held at `r` with no move left, to its end. -/
theorem State.run_held_foreground {s : State} {r : InFlight} (n : Nat) (hr : s.inflight.get .fg = some r)
    (hirq : s.inflight.irq = none) (hscript : s.script = []) :
    s.run n = State.runMicro (microOf r.instr) .fg n (s.hold .fg r) := by
  have h := State.run_foreground r.instr n s hirq fun q hq => by
    obtain rfl := Option.some.inj (hq.symm.trans hr)
    rfl
  rw [State.hold_self hr]
  rwa [State.scripted_self hscript] at h

section
variable (s : State) (x : Ctx) (i : Instr) (a0 a1 : Nat) (w : Temps) (k : Nat)

/-- CLK.READ from K2: the slot that is current by then, with the sample taken at K1 (R121). -/
theorem State.runMicro_clkRead_sampled :
    State.runMicro microClkRead x 4 (s.hold x ⟨i, a0, a1, 2, w⟩) =
      .next (s.leave x (.clock (clockValue (rollover (s.slot s.idx).epoch (s.slot s.idx).last w.sample) w.sample))) := by
  simp [State.runMicro_hold, microClkRead, clkReadSub, Sub.andThen, InFlight.at]

/-- LNK.WRITE from T4, having seen the link Busy: the frame is queued and the transmit state is left (R221). -/
theorem State.runMicro_lnkWrite_busy (hst : w.st = .busy)
    (hroom : s.full (s.cfg.tx k) = false) :
    State.runMicro (microLnkWrite k) x 8 (s.hold x ⟨i, a0, a1, 4, w⟩) =
      .next ((s.written (s.cfg.tx k) (.raw a0)).leave x (.flag true)) := by
  simp [State.runMicro_hold, microLnkWrite, chWriteSub, Sub.andThen, InFlight.at, State.written, hst, hroom]

/-- LNK.WRITE from T3 (R221). -/
theorem State.runMicro_lnkWrite_accepted :
    State.runMicro (microLnkWrite k) x 1 (s.hold x ⟨i, a0, a1, 3, w⟩) = .next ((s.busied k).leave x (.flag true)) := by
  unfold State.busied
  by_cases hmode : s.cfg.txMode k = .buffered <;> simp [State.runMicro_hold, microLnkWrite, hmode]

end

/-! ## The races of the clock and of the transmit side (70_reset_and_hazards.md R308, R313) -/

/-- The slot published by a whole CLK.UPDATE of `IRQ`. -/
theorem exec_clkUpdate_irq {s : State} (hsrc : s.req.src = .port .irq) (hupd : s.cfg.clkUpdater = .irq) :
    ∃ t, exec .clkUpdate s = .next t ∧ t.script = s.script ∧ t.inflight = s.inflight.set .irq none ∧
      t.slot t.idx = ⟨rollover (s.slot s.idx).epoch (s.slot s.idx).last s.hwCounter, s.hwCounter⟩ := by
  refine ⟨_, exec_clkUpdate_port (hsrc.trans (congrArg Source.port hupd.symm)), ?_, ?_, State.clockUpdated_slot s⟩
  · simp [State.clockUpdated]
  · simp [State.clockUpdated, hupd]

/-- A CLK.READ at K2, overtaken by a whole CLK.UPDATE of `IRQ`: it ends with the slot that the update publishes. -/
theorem State.run_overtaken {s : State} {a0 a1 : Nat} {w : Temps}
    (hr : s.inflight.get .fg = some ⟨.clkRead, a0, a1, 2, w⟩) (hirq : s.inflight.irq = none)
    (hupd : s.cfg.clkUpdater = .irq) :
    ∃ t, (s.scripted [.request true .irq (encode .clkUpdate) 0 0]).run 5 = .next t ∧
      t.result.fg = .clock (clockValue
        (rollover (rollover (s.slot s.idx).epoch (s.slot s.idx).last s.hwCounter) s.hwCounter w.sample) w.sample) := by
  obtain ⟨v, hexec, hscript, hv, hslot⟩ :=
    exec_clkUpdate_irq (s := { s.scripted [] with req := ⟨.port .irq, 0, 0⟩ }) rfl hupd
  rw [State.run_whole ((s.ready_iff .irq).mpr (by simp [hirq])) rfl, hexec]
  refine ⟨_, (State.run_held_foreground 4 (r := ⟨.clkRead, a0, a1, 2, w⟩) ?_ ?_ hscript).trans
    (State.runMicro_clkRead_sampled ..), ?_⟩
  · rw [hv]; exact hr
  · rw [hv]; rfl
  · rw [State.leave_result, hslot]
    rfl

/-- The reading of an overtaken CLK.READ, with no wrap between the samples and none since the slot published before: the update's
sample is above the read's, so the read counts a wrap that did not happen (R308). -/
theorem overtaken_reading {epoch : Epoch} {last : Micros} {tau us : Nat} (hlast : last.toNat ≤ tau % 2 ^ 32) (hus : 0 < us)
    (hwrap : tau % 2 ^ 32 + us < 2 ^ 32) (hepoch : epoch.toNat + 1 < 2 ^ 32) :
    (clockValue (rollover (rollover epoch last (BitVec.ofNat 32 (tau + us))) (BitVec.ofNat 32 (tau + us))
      (BitVec.ofNat 32 tau)) (BitVec.ofNat 32 tau)).toNat = epoch.toNat * 2 ^ 32 + tau % 2 ^ 32 + 2 ^ 32 := by
  simp only [clockValue_toNat, rollover_toNat, BitVec.toNat_ofNat]
  rw [if_pos (by omega), if_neg (by omega)]
  omega

/-- Settles O26: the read goes on, with the sample it took before, from the slot that the update publishes. -/
theorem overtakenReadTooLarge : Obligations.OvertakenReadTooLarge := by
  intro s us cur hin hupd hlast hus hwrap hepoch hscript
  have hready : s.ready .fg = true := (s.ready_iff .fg).mpr (by simp [hin])
  obtain ⟨t, hrun, hres⟩ := State.run_overtaken (s := { (s.requested .fg 0 0).hold .fg
    ⟨.clkRead, 0, 0, 2, { sample := s.hwCounter }⟩ with tau := s.tau + us }) rfl (congrArg PerCtx.irq hin) hupd
  refine ⟨t, ?_, hres.trans (congrArg _ (overtaken_reading hlast hus hwrap hepoch))⟩
  rw [← State.scripted_self hscript]
  exact (State.run_held (i := .clkRead) hready rfl (State.verdict_port rfl rfl rfl nofun) 7 _).trans
    ((State.run_goto (s := s.requested .fg 0 0) (fun _ => congrArg PerCtx.irq hin) rfl 6 _).trans
      ((State.run_elapse ..).trans hrun))

/-- `s` after a completion of link `k` served whole, with no move left, that found nothing to send (R225 step D3). -/
def State.completed (s : State) (k : Nat) : State :=
  { s with req := ⟨.dispatcher, 0, 0⟩, script := [], result := s.result.set .irq .none, txState := s.txState.set k .idle }

theorem State.run_completion {s : State} {k : Nat} (hirq : s.inflight.irq = none) (hk : k < s.cfg.nLnk)
    (side : s.cfg.hasTx k = true) (hmode : s.cfg.txMode k = .buffered) (quiet : s.cfg.tx k ∉ s.clearing)
    (hempty : s.tail (s.cfg.tx k) = s.head (s.cfg.tx k)) (n : Nat) :
    (s.scripted [.event true k .txComplete]).run (n + 1) = (s.completed k).run n := by
  have hready : s.ready .irq = true := (s.ready_iff .irq).mpr (by simp [hirq])
  have hattached : (s.scripted []).cfg.attached k .txComplete = true := by simp [State.scripted, Params.attached, hk, side]
  have hv : State.verdict { s.scripted [] with req := ⟨.dispatcher, 0, 0⟩ } (.isrTxDone k) = .accepted :=
    State.verdict_dispatcher rfl (by simp [Instr.legal, State.scripted, hk, side]) rfl fun c hc => by
      rw [List.mem_singleton.mp hc]
      exact quiet
  have hidle : s.inflight.set .irq none = s.inflight := by
    rw [← hirq]
    rfl
  rw [State.run_succ, step_scripted_event hready, State.serve, if_pos hattached, State.start, if_pos rfl]
  refine (congrArg (thenRun n) ((exec_isrTxDone hv (State.ctx_of_dispatcher rfl)).trans (if_pos hempty))).trans ?_
  rw [State.idled_eq]
  simp only [State.scripted, State.leave, hmode, if_true, hidle, State.completed]
  rfl

theorem State.tail_eq_head_of_contents {s : State} {c : Nat} (hs : s.channelSound c) (h : s.contents c = []) :
    s.tail c = s.head c := by
  obtain ⟨-, -, -, ⟨hhead, htail⟩, -⟩ := hs
  have := State.contents_length s c
  rw [h] at this
  exact (occ_eq_zero_iff htail hhead).mp this.symm

section
variable {s : State} {k f a1 : Nat}

theorem State.not_full_of_contents {c : Nat} (hs : s.channelSound c) (h : s.contents c = []) :
    s.full c = false := by
  rw [Bool.eq_false_iff, Ne, State.full_iff, ← State.contents_length, h]
  exact Nat.ne_of_lt hs.2.1

theorem microLnkWrite_start {st : TxState} (hst : s.tx k = st) :
    microOf (.lnkWrite k) ⟨.lnkWrite k, f, a1, 1, {}⟩ (s.hold .fg ⟨.lnkWrite k, f, a1, 1, {}⟩) =
      .goto ⟨.lnkWrite k, f, a1, if st = .busy then 4 else 2, { st := st }⟩
        (s.hold .fg ⟨.lnkWrite k, f, a1, 1, {}⟩) := by
  subst hst; rfl

/-- `s` with a LNK.WRITE at T4 that saw the link Busy, after a completion that found nothing to send. -/
def State.stranding (s : State) (k f a1 : Nat) : State :=
  (s.hold .fg ⟨.lnkWrite k, f, a1, 4, { st := .busy }⟩).completed k

/-- A LNK.WRITE on a Busy link, at T1, with a completion due after it (R313 a). -/
theorem State.run_stranded (hirq : s.inflight.irq = none) (hk : k < s.cfg.nLnk) (hlen : k < s.txState.length)
    (side : s.cfg.hasTx k = true) (hmode : s.cfg.txMode k = .buffered) (hsound : s.channelSound (s.cfg.tx k))
    (hbusy : s.tx k = .busy) (hnil : s.contents (s.cfg.tx k) = []) :
    ∃ t, ((s.hold .fg ⟨.lnkWrite k, f, a1, 1, {}⟩).scripted [.advance, .event true k .txComplete]).run 10 = .next t ∧
      t.tx k = .idle ∧ t.contents (s.cfg.tx k) = [.raw f] ∧ t.result.fg = .flag true ∧ t.inflight = ⟨none, none⟩ ∧
      t.hw = s.hw := by
  have hroom := State.not_full_of_contents hsound hnil
  have hend : (s.stranding k f a1).run 8 =
      .next (((s.stranding k f a1).written (s.cfg.tx k) (.raw f)).leave .fg (.flag true)) :=
    (State.run_held_foreground (s := s.stranding k f a1) 8 (r := ⟨.lnkWrite k, f, a1, 4, { st := .busy }⟩) rfl hirq rfl).trans
      (State.runMicro_lnkWrite_busy (s.stranding k f a1) .fg _ f a1 _ k rfl hroom)
  refine ⟨((s.stranding k f a1).written (s.cfg.tx k) (.raw f)).leave .fg (.flag true), ?_, ?_⟩
  · calc
      _ = ((s.hold .fg ⟨.lnkWrite k, f, a1, 4, { st := .busy }⟩).scripted [.event true k .txComplete]).run 9 :=
        State.run_goto (s := s) (s' := s) (x := .fg) (r := ⟨.lnkWrite k, f, a1, 1, {}⟩) (fun _ => hirq)
          (microLnkWrite_start (f := f) (a1 := a1) hbusy) 9 _
      _ = (s.stranding k f a1).run 8 :=
        State.run_completion (s := s.hold .fg ⟨.lnkWrite k, f, a1, 4, { st := .busy }⟩) hirq hk side hmode nofun
          (State.tail_eq_head_of_contents hsound hnil) 8
      _ = .next _ := hend
  · have hidle : (s.setTx k .idle).tx k = .idle := by rw [State.setTx_tx, if_pos ⟨rfl, hlen⟩]
    have hcontents := State.contents_written (s := s.stranding k f a1) hsound (.raw f)
    have hcap : ([] : List Elem).length ≠ (s.stranding k f a1).cfg.cap (s.cfg.tx k) := Nat.ne_of_lt hsound.2.1
    rw [show (s.stranding k f a1).contents (s.cfg.tx k) = [] from hnil, if_neg hcap] at hcontents
    rw [State.leave_contents, hcontents, State.written_eq]
    refine ⟨hidle, rfl, rfl, ?_, rfl⟩
    show (⟨none, s.inflight.irq⟩ : PerCtx (Option InFlight)) = _
    rw [hirq]

theorem microLnkWrite_offer {w : Temps} (hacc : (s.peripheral k).accepts = true) :
    microOf (.lnkWrite k) ⟨.lnkWrite k, f, a1, 2, w⟩ (s.hold .fg ⟨.lnkWrite k, f, a1, 2, w⟩) =
      .goto ⟨.lnkWrite k, f, a1, 3, w⟩ ((s.handed k f).hold .fg ⟨.lnkWrite k, f, a1, 2, w⟩) := by
  simp [microOf, microLnkWrite, State.hwXmit_eq, hacc, InFlight.at, State.handed]

/-- `s` with a LNK.WRITE at T3 whose frame the peripheral has taken, after a completion that found nothing to send. -/
def State.sticking (s : State) (k f a1 : Nat) : State :=
  ((s.handed k f).hold .fg ⟨.lnkWrite k, f, a1, 3, {}⟩).completed k

/-- A LNK.WRITE on an Idle link whose peripheral accepts, at T1, with a completion due after T2 (R313 b). -/
theorem State.run_stuck (hirq : s.inflight.irq = none) (hk : k < s.cfg.nLnk) (hlen : k < s.txState.length)
    (hhw : k < s.hw.length) (side : s.cfg.hasTx k = true) (hmode : s.cfg.txMode k = .buffered)
    (hsound : s.channelSound (s.cfg.tx k)) (hidle : s.tx k = .idle) (hnil : s.contents (s.cfg.tx k) = [])
    (hacc : (s.peripheral k).accepts = true) :
    ∃ t, ((s.hold .fg ⟨.lnkWrite k, f, a1, 1, {}⟩).scripted [.advance, .advance, .event true k .txComplete]).run 4 =
      .next t ∧ t.tx k = .busy ∧ t.contents (s.cfg.tx k) = [] ∧ t.result.fg = .flag true ∧
      (t.peripheral k).sent = (s.peripheral k).sent ++ [f] ∧ t.inflight = ⟨none, none⟩ := by
  have hempty := State.tail_eq_head_of_contents hsound hnil
  have hend : (s.sticking k f a1).run 1 = .next (((s.sticking k f a1).busied k).leave .fg (.flag true)) :=
    (State.run_held_foreground (s := s.sticking k f a1) 1 (r := ⟨.lnkWrite k, f, a1, 3, {}⟩) rfl hirq rfl).trans
      (State.runMicro_lnkWrite_accepted (s.sticking k f a1) .fg _ f a1 _ k)
  refine ⟨((s.sticking k f a1).busied k).leave .fg (.flag true), ?_, ?_⟩
  · calc
      _ = ((s.hold .fg ⟨.lnkWrite k, f, a1, 2, {}⟩).scripted [.advance, .event true k .txComplete]).run 3 :=
        State.run_goto (s := s) (s' := s) (x := .fg) (r := ⟨.lnkWrite k, f, a1, 1, {}⟩) (fun _ => hirq)
          (microLnkWrite_start (f := f) (a1 := a1) hidle) 3 _
      _ = (((s.handed k f).hold .fg ⟨.lnkWrite k, f, a1, 3, {}⟩).scripted [.event true k .txComplete]).run 2 :=
        State.run_goto (s := s) (s' := s.handed k f) (x := .fg) (r := ⟨.lnkWrite k, f, a1, 2, {}⟩) (fun _ => hirq)
          (microLnkWrite_offer (f := f) (a1 := a1) hacc) 2 _
      _ = (s.sticking k f a1).run 1 :=
        State.run_completion (s := (s.handed k f).hold .fg ⟨.lnkWrite k, f, a1, 3, {}⟩) hirq hk side hmode nofun hempty 1
      _ = .next _ := hend
  · have hbusied : (s.sticking k f a1).busied k = (s.sticking k f a1).setTx k .busy := if_pos hmode
    rw [hbusied]
    refine ⟨?_, hnil, rfl, ?_, ?_⟩
    · rw [State.leave_tx, State.setTx_tx, if_pos ⟨rfl, by simpa [State.sticking, State.completed, State.handed] using hlen⟩]
    · show ((s.handed k f).peripheral k).sent = _
      simp [State.handed, State.setPeripheral_peripheral, hhw]
    · show (⟨none, s.inflight.irq⟩ : PerCtx (Option InFlight)) = _
      rw [hirq]

end

/-- Settles O49: the completion finds nothing to send, and T7 leaves the transmit state, which it saw Busy. -/
theorem strandedFrame : Obligations.StrandedFrame := by
  intro s k f c hin h256 hk hlen side hmode hsound hbusy hnil hscript
  have hready : s.ready .fg = true := (s.ready_iff .fg).mpr (by simp [hin])
  have hv : State.verdict { s with req := ⟨.port .fg, f, 0⟩ } (.lnkWrite k) = .accepted :=
    State.verdict_port rfl (by simp [Instr.legal, hk, side]) rfl nofun
  obtain ⟨t, hrun, ends⟩ := State.run_stranded (s := s.requested .fg f 0) (f := f % 2 ^ s.cfg.frameW) (a1 := 0)
    (congrArg PerCtx.irq hin) hk hlen side hmode hsound hbusy hnil
  refine ⟨t, ?_, ends⟩
  rw [← State.scripted_self hscript]
  exact (State.run_held (i := .lnkWrite k) hready (decide_eq_true h256) hv 10 _).trans hrun

/-- Settles O50: the completion finds nothing to send, and T3 makes the link Busy after it. -/
theorem stuckBusy : Obligations.StuckBusy := by
  intro s k f c hin h256 hk hlen hhw side hmode hsound hidle hnil hacc hscript
  have hready : s.ready .fg = true := (s.ready_iff .fg).mpr (by simp [hin])
  have hv : State.verdict { s with req := ⟨.port .fg, f, 0⟩ } (.lnkWrite k) = .accepted :=
    State.verdict_port rfl (by simp [Instr.legal, hk, side]) rfl nofun
  obtain ⟨t, hrun, ends⟩ := State.run_stuck (s := s.requested .fg f 0) (f := f % 2 ^ s.cfg.frameW) (a1 := 0)
    (congrArg PerCtx.irq hin) hk hlen hhw side hmode hsound hidle hnil hacc
  refine ⟨t, ?_, ends⟩
  rw [← State.scripted_self hscript]
  exact (State.run_held (i := .lnkWrite k) hready (decide_eq_true h256) hv 4 _).trans hrun

end Sys2Proof.Machine

namespace Sys2Proof.Machine

/-! ## ISR.RX, pass by pass (43_link_rx.md R194) -/

section
variable (s : State) (k f : Nat) (rest : List Nat)

/-- A pass that takes the frame `f` and leaves `rest` in the peripheral: steps A3 to A5 with room (R194). -/
def State.received : State :=
  (s.setPeripheral k { s.peripheral k with rxq := rest }).written (s.cfg.rx k) (s.wrapped k f)

variable (x : Ctx) (i : Instr) (a0 a1 : Nat) (w : Temps) (n : Nat)

/-- The pass that finds the channel full (A1, A2, A6). -/
theorem State.runMicro_isrRx_full (hfull : s.full (s.cfg.rx k) = true) :
    State.runMicro (microIsrRx k) x (n + 3) (s.hold x ⟨i, a0, a1, 1, w⟩) = .next ((s.residue k).leave x .none) := by
  simp [State.runMicro_hold, microIsrRx, InFlight.at, hfull]

/-- The pass that finds nothing pending (A1, A2, A3). -/
theorem State.runMicro_isrRx_none (hroom : s.full (s.cfg.rx k) = false)
    (hq : (s.peripheral k).rxq = []) :
    State.runMicro (microIsrRx k) x (n + 3) (s.hold x ⟨i, a0, a1, 1, w⟩) = .next (s.leave x .none) := by
  simp [State.runMicro_hold, microIsrRx, InFlight.at, hroom, State.hwRecv, hq]

/-- A pass that takes a frame on a link with timestamps: 13 micro-steps. -/
theorem State.runMicro_isrRx_timestamped
    (hroom : s.full (s.cfg.rx k) = false)
    (hq : (s.peripheral k).rxq = f :: rest) (hts : s.cfg.timestamp k = true) :
    ∃ w', State.runMicro (microIsrRx k) x (n + 13) (s.hold x ⟨i, a0, a1, 1, w⟩) =
      State.runMicro (microIsrRx k) x n ((s.received k f rest).hold x ⟨i, a0, a1, 1, w'⟩) := by
  simp [State.runMicro_hold, microIsrRx, clkReadSub, chWriteSub, Sub.andThen, InFlight.at, hroom, State.hwRecv, hq, hts,
    State.received, State.written, State.wrapped, State.readingMs_eq, State.reading]
  exact ⟨_, rfl⟩

/-- A pass that takes a frame on a link without: A4 is one micro-step, so 9. -/
theorem State.runMicro_isrRx_plain
    (hroom : s.full (s.cfg.rx k) = false)
    (hq : (s.peripheral k).rxq = f :: rest) (hts : s.cfg.timestamp k = false) :
    ∃ w', State.runMicro (microIsrRx k) x (n + 9) (s.hold x ⟨i, a0, a1, 1, w⟩) =
      State.runMicro (microIsrRx k) x n ((s.received k f rest).hold x ⟨i, a0, a1, 1, w'⟩) := by
  simp [State.runMicro_hold, microIsrRx, chWriteSub, Sub.andThen, InFlight.at, hroom, State.hwRecv, hq, hts,
    State.received, State.written, State.wrapped]
  exact ⟨_, rfl⟩

end

/-- The registers after all passes over the pending frames `q` (R194): it ends at the first frame that finds no room, or when none is
left. -/
def State.drained (k : Nat) : List Nat → State → State
  | [], s => if s.full (s.cfg.rx k) then s.residue k else s
  | f :: rest, s =>
    if s.full (s.cfg.rx k) then s.residue k
    else State.drained k rest (s.received k f rest)

section
variable {s : State} {k : Nat}

theorem State.drained_full (hfull : s.full (s.cfg.rx k) = true)
    (q : List Nat) : s.drained k q = s.residue k := by
  cases q <;> rw [State.drained, if_pos hfull]

/-- A link that has frames pending exists. -/
theorem State.lt_of_rxq {f : Nat} {rest : List Nat} (h : (s.peripheral k).rxq = f :: rest) : k < s.hw.length := by
  by_contra hk
  rw [State.peripheral, List.getD_eq_default _ _ (Nat.le_of_not_lt hk)] at h
  cases h

@[simp] theorem State.written_peripheral (s : State) (c : Nat) (v : Elem) (m : Nat) :
    (s.written c v).peripheral m = s.peripheral m := by
  unfold State.written; split <;> simp

theorem State.received_rxq {f : Nat} {rest : List Nat} (h : (s.peripheral k).rxq = f :: rest) :
    ((s.received k f rest).peripheral k).rxq = rest := by
  simp [State.received, State.setPeripheral_peripheral, State.lt_of_rxq h]

/-- ISR.RX returns after its passes over whatever is pending. -/
theorem State.runMicro_isrRx (x : Ctx) (i : Instr) (a0 a1 : Nat) (q : List Nat) :
    ∀ (s : State) (w : Temps) (n : Nat), (s.peripheral k).rxq = q → 13 * q.length + 3 ≤ n →
      State.runMicro (microIsrRx k) x n (s.hold x ⟨i, a0, a1, 1, w⟩) = .next ((s.drained k q).leave x .none) := by
  induction q with
  | nil =>
    intro s w n hq hn
    obtain ⟨m, rfl⟩ := Nat.exists_eq_add_of_le' (show 3 ≤ n from hn)
    cases hfull : s.full (s.cfg.rx k) with
    | true => rw [State.drained_full hfull, State.runMicro_isrRx_full _ _ _ _ _ _ _ _ hfull]
    | false => rw [State.drained, if_neg (by simp [hfull]), State.runMicro_isrRx_none _ _ _ _ _ _ _ _ hfull hq]
  | cons f rest ih =>
    intro s w n hq hn
    rw [List.length_cons] at hn
    cases hfull : s.full (s.cfg.rx k) with
    | true =>
      obtain ⟨m, rfl⟩ := Nat.exists_eq_add_of_le' (show 3 ≤ n by omega)
      rw [State.drained_full hfull, State.runMicro_isrRx_full _ _ _ _ _ _ _ _ hfull]
    | false =>
      rw [State.drained, if_neg (by simp [hfull])]
      cases hts : s.cfg.timestamp k with
      | true =>
        obtain ⟨m, rfl⟩ := Nat.exists_eq_add_of_le' (show 13 ≤ n by omega)
        obtain ⟨w', hpass⟩ := State.runMicro_isrRx_timestamped s k f rest x i a0 a1 w m hfull hq hts
        exact hpass.trans (ih _ w' m (State.received_rxq hq) (by omega))
      | false =>
        obtain ⟨m, rfl⟩ := Nat.exists_eq_add_of_le' (show 9 ≤ n by omega)
        obtain ⟨w', hpass⟩ := State.runMicro_isrRx_plain s k f rest x i a0 a1 w m hfull hq hts
        exact hpass.trans (ih _ w' m (State.received_rxq hq) (by omega))

/-- A whole ISR.RX (R194). What its result port shows meanwhile is not what it shows at the end. -/
theorem exec_isrRx {x : Ctx} (h : s.verdict (.isrRx k) = .accepted) (hx : s.req.src.ctx = x) :
    exec (.isrRx k) s = .next (((s.showing x .none).drained k (s.peripheral k).rxq).leave x .none) :=
  exec_of_runMicro h hx (State.runMicro_isrRx x _ _ _ _ _ _ _ rfl le_rfl)

@[simp] theorem State.received_inflight (s : State) (f : Nat) (rest : List Nat) :
    (s.received k f rest).inflight = s.inflight := by
  unfold State.received State.written; split <;> rfl

@[simp] theorem State.drained_inflight (q : List Nat) : ∀ s : State, (s.drained k q).inflight = s.inflight := by
  induction q with
  | nil => intro s; rw [State.drained]; split <;> simp
  | cons f rest ih => intro s; rw [State.drained]; split <;> simp [ih]

theorem State.verdict_isrRx (hk : k < s.cfg.nLnk) (side : s.cfg.hasRx k = true) (hx : s.req.src = .dispatcher)
    (quiet : s.cfg.rx k ∉ s.clearing) : s.verdict (.isrRx k) = .accepted :=
  State.verdict_dispatcher hx (by simp [Instr.legal, hk, side]) rfl (by simpa [Instr.uses] using quiet)

end

/-- Settles O44. -/
theorem isrRxCompletes : Obligations.IsrRxCompletes := by
  intro s k hk side hx quiet
  refine ⟨_, exec_isrRx (State.verdict_isrRx hk side hx quiet) (State.ctx_of_dispatcher hx), ?_⟩
  rw [State.leave_inflight, State.drained_inflight]
  rfl

end Sys2Proof.Machine

namespace Sys2Proof.Machine

/-! ## What a burst leaves in the receive channel (43_link_rx.md R194, R195, R203, R204) -/

/-- `s` with `n` elements more in the receive channel of link `k`, whose storage is `store`, and with `left` pending. -/
def State.filled (s : State) (k n : Nat) (store : List Elem) (left : List Nat) : State :=
  { s with
    chans := s.chans.set (s.cfg.rx k) ⟨s.head (s.cfg.rx k), (s.tail (s.cfg.rx k) + n) % (2 * s.cfg.cap (s.cfg.rx k)), store⟩
    hw := s.hw.set k { s.peripheral k with rxq := left } }

theorem State.filled_showing (s : State) (x : Ctx) (a : Result) (k n : Nat) (store : List Elem) (left : List Nat) :
    (s.showing x a).filled k n store left = (s.filled k n store left).showing x a := rfl

theorem set_modify {α : Type} (l : List α) (c : Nat) (f : α → α) (a : α) : (l.modify c f).set c a = l.set c a := by
  refine List.ext_getElem? fun n => ?_
  simp only [List.getElem?_set, List.getElem?_modify, List.length_modify]
  split
  · rfl
  · simp

section
variable {s : State} {c : Nat}

/-- A write with room: what its channel becomes (R161). -/
theorem State.written_chan (hlen : c < s.chans.length)
    (hroom : s.full c = false) (v : Elem) :
    (s.written c v).chan c =
      ⟨s.head c, cursorNext (s.cfg.cap c) (s.tail c), (s.chan c).store.set (s.tail c % s.cfg.cap c) v⟩ := by
  rw [State.written, if_neg (by simp [hroom])]
  simp [State.chan, State.setTail, State.memWrite, hlen, State.head]

@[simp] theorem State.written_cfg (v : Elem) : (s.written c v).cfg = s.cfg := by
  unfold State.written; split <;> rfl

theorem State.channelSound.written (hs : s.channelSound c) (hroom : s.full c = false)
    (v : Elem) : (s.written c v).channelSound c ∧ (s.written c v).occupancy c = s.occupancy c + 1 := by
  obtain ⟨hlen, hcap, hsize, ⟨hh, ht⟩, hocc⟩ := hs
  have hchan := State.written_chan hlen hroom v
  have htail : (s.written c v).tail c = cursorNext (s.cfg.cap c) (s.tail c) := congrArg Chan.tail hchan
  have hhead : (s.written c v).head c = s.head c := by rw [State.head, hchan]
  have hlt : s.occupancy c < s.cfg.cap c :=
    Nat.lt_of_le_of_ne hocc fun h => by rw [(s.full_iff c).mpr h] at hroom; cases hroom
  have hnext : (s.written c v).occupancy c = s.occupancy c + 1 := by
    rw [State.occupancy, State.written_cfg, htail, hhead]
    exact occ_cursorNext_tail hcap ht hh hlt
  refine ⟨⟨?_, ?_, ?_, ⟨?_, ?_⟩, ?_⟩, hnext⟩
  · simpa [State.written_eq, apply_ite List.length] using hlen
  · rwa [State.written_cfg]
  · rw [hchan, State.written_cfg, List.length_set, hsize]
  · rwa [State.written_cfg, hhead]
  · rw [State.written_cfg, htail]
    exact cursorNext_lt hcap _
  · rw [hnext, State.written_cfg]
    exact hlt

end

section
variable {s : State} {k f : Nat} {rest : List Nat}

@[simp] theorem State.received_cfg : (s.received k f rest).cfg = s.cfg := State.written_cfg _

@[simp] theorem State.received_wrapped : (s.received k f rest).wrapped k = s.wrapped k := by
  funext g
  unfold State.received State.written; split <;> rfl

variable (hs : s.channelSound (s.cfg.rx k))
  (hroom : s.full (s.cfg.rx k) = false)
include hs hroom

theorem State.received_chan :
    (s.received k f rest).chan (s.cfg.rx k) =
      ⟨s.head (s.cfg.rx k), cursorNext (s.cfg.cap (s.cfg.rx k)) (s.tail (s.cfg.rx k)),
        (s.chan (s.cfg.rx k)).store.set (s.tail (s.cfg.rx k) % s.cfg.cap (s.cfg.rx k)) (s.wrapped k f)⟩ :=
  State.written_chan (s := s.setPeripheral k { s.peripheral k with rxq := rest }) hs.1 hroom _

theorem State.received_sound :
    (s.received k f rest).channelSound (s.cfg.rx k) ∧
      (s.received k f rest).occupancy (s.cfg.rx k) = s.occupancy (s.cfg.rx k) + 1 :=
  State.channelSound.written (s := s.setPeripheral k { s.peripheral k with rxq := rest }) hs hroom _

theorem State.received_contents :
    (s.received k f rest).contents (s.cfg.rx k) = s.contents (s.cfg.rx k) ++ [s.wrapped k f] := by
  refine (State.contents_written (s := s.setPeripheral k { s.peripheral k with rxq := rest }) hs _).trans (if_neg fun h => ?_)
  rw [State.contents_length] at h
  exact absurd ((s.full_iff _).mpr h) (by simpa using hroom)

/-- Filling on after a pass that took a frame. -/
theorem State.filled_received (n : Nat) (store : List Elem) (left : List Nat) :
    (s.received k f rest).filled k n store left = s.filled k (n + 1) store left := by
  have hchan := State.received_chan (f := f) (rest := rest) hs hroom
  have hnext : ((s.received k f rest).tail (s.cfg.rx k) + n) % (2 * s.cfg.cap (s.cfg.rx k)) =
      (s.tail (s.cfg.rx k) + (n + 1)) % (2 * s.cfg.cap (s.cfg.rx k)) := by
    rw [State.tail, hchan]
    simp only [cursorNext, curMod, Nat.mod_add_mod]
    congr 1
    omega
  have hhead : (s.received k f rest).head (s.cfg.rx k) = s.head (s.cfg.rx k) := by rw [State.head, hchan]
  have hhw : (s.received k f rest).hw.set k { (s.received k f rest).peripheral k with rxq := left } =
      s.hw.set k { s.peripheral k with rxq := left } := by
    unfold State.received
    rw [State.written_peripheral, State.written_eq]
    by_cases hk : k < s.hw.length <;> simp [State.setPeripheral_peripheral, hk]
  unfold State.filled
  rw [State.received_cfg, hnext, hhead, hhw]
  unfold State.received
  rw [State.written, if_neg (by simpa using hroom)]
  simp [State.setTail, State.memWrite, set_modify]

end
theorem cursorNext_add_mod (cap x j : Nat) : (cursorNext cap x + j) % cap = (x + (j + 1)) % cap := by
  rw [cursorNext, curMod, Nat.add_mod, Nat.mod_mul_left_mod, ← Nat.add_mod]
  congr 1
  omega

/-- `t` is `s` after a burst `q` of link `k` found room for `room` elements; `store` is the storage then (R194, R195, R203). -/
structure State.Drained (s : State) (k : Nat) (q : List Nat) (room : Nat) (store : List Elem) (t : State) : Prop where
  state : t = s.filled k (min room q.length) store (if s.cfg.rxResidue = .discard then [] else q.drop room)
  contents : t.contents (s.cfg.rx k) = s.contents (s.cfg.rx k) ++ (q.take room).map (s.wrapped k)
  size : store.length = s.cfg.cap (s.cfg.rx k)
  others : ∀ i, (∀ j < min room q.length, i ≠ (s.tail (s.cfg.rx k) + j) % s.cfg.cap (s.cfg.rx k)) →
    store[i]? = (s.chan (s.cfg.rx k)).store[i]?

section
variable {s : State} {k : Nat}

theorem State.setPeripheral_self {q : List Nat} (hq : (s.peripheral k).rxq = q) :
    s.setPeripheral k { s.peripheral k with rxq := q } = s := by
  subst hq
  by_cases hk : k < s.hw.length
  · have hsame : s.peripheral k = s.hw[k] := List.getD_eq_getElem _ _ hk
    show { s with hw := s.hw.set k (s.peripheral k) } = s
    rw [hsame, List.set_getElem_self]
  · simp [State.setPeripheral, List.set_eq_of_length_le (Nat.le_of_not_lt hk)]

theorem State.filled_zero (hs : s.channelSound (s.cfg.rx k)) (left : List Nat) :
    s.filled k 0 (s.chan (s.cfg.rx k)).store left = s.setPeripheral k { s.peripheral k with rxq := left } := by
  obtain ⟨hlen, -, -, ⟨-, ht⟩, -⟩ := hs
  have htail : s.tail (s.cfg.rx k) < 2 * s.cfg.cap (s.cfg.rx k) := ht
  have hchan : (⟨s.head (s.cfg.rx k), s.tail (s.cfg.rx k), (s.chan (s.cfg.rx k)).store⟩ : Chan) = s.chans[s.cfg.rx k] := by
    rw [State.head, State.tail, State.chan, List.getD_eq_getElem _ _ hlen]
  rw [State.filled, Nat.add_zero, Nat.mod_eq_of_lt htail, hchan, List.set_getElem_self]
  rfl

/-- A pass that takes no frame: it ended, or the channel was full. -/
theorem State.drained_none {q : List Nat} {room : Nat} {t : State} (hs : s.channelSound (s.cfg.rx k))
    (hnone : min room q.length = 0)
    (ht : t = s.setPeripheral k { s.peripheral k with rxq := if s.cfg.rxResidue = .discard then [] else q.drop room }) :
    s.Drained k q room (s.chan (s.cfg.rx k)).store t where
  state := by rw [hnone, State.filled_zero hs, ht]
  contents := by
    have htake : q.take room = [] := by
      rw [← List.length_eq_zero_iff, List.length_take, hnone]
    rw [htake, ht]
    simp
  size := hs.2.2.1
  others := fun _ _ => rfl

theorem State.drained_received {f : Nat} {rest : List Nat} {room : Nat} {store : List Elem} {t : State}
    (hs : s.channelSound (s.cfg.rx k))
    (hroom : s.full (s.cfg.rx k) = false)
    (h : (s.received k f rest).Drained k rest room store t) : s.Drained k (f :: rest) (room + 1) store t where
  state := by
    rw [h.state, State.filled_received hs hroom, State.received_cfg, List.length_cons, Nat.add_min_add_right,
      List.drop_succ_cons]
  contents := by
    have hcontents := h.contents
    rw [State.received_cfg, State.received_contents hs hroom] at hcontents
    rw [hcontents, List.take_succ_cons, List.map_cons, List.append_assoc]
    simp
  size := by
    rw [h.size, State.received_cfg]
  others := by
    intro i hi
    have hchan := State.received_chan (f := f) (rest := rest) hs hroom
    have hlater := h.others i fun j hj => by
      rw [State.received_cfg, State.tail, hchan]
      have hne := hi (j + 1) (by rw [List.length_cons]; omega)
      rw [show (cursorNext (s.cfg.cap (s.cfg.rx k)) (s.tail (s.cfg.rx k)) + j) % s.cfg.cap (s.cfg.rx k) =
        (s.tail (s.cfg.rx k) + (j + 1)) % s.cfg.cap (s.cfg.rx k) from cursorNext_add_mod ..]
      exact hne
    have hfirst := hi 0 (by rw [List.length_cons]; omega)
    rw [hlater, State.received_cfg, hchan]
    exact List.getElem?_set_ne (Ne.symm hfirst)

/-- ISR.RX stores the frames that fit, one after another. -/
theorem State.drained_spec (q : List Nat) :
    ∀ s : State, s.channelSound (s.cfg.rx k) → (s.peripheral k).rxq = q →
      ∃ store, s.Drained k q (s.cfg.cap (s.cfg.rx k) - s.occupancy (s.cfg.rx k)) store (s.drained k q) := by
  have full (s : State) (q : List Nat) (hs : s.channelSound (s.cfg.rx k)) (hq : (s.peripheral k).rxq = q)
      (hfull : s.full (s.cfg.rx k) = true) :
      ∃ store, s.Drained k q (s.cfg.cap (s.cfg.rx k) - s.occupancy (s.cfg.rx k)) store (s.drained k q) := by
    have hroom : s.cfg.cap (s.cfg.rx k) - s.occupancy (s.cfg.rx k) = 0 := Nat.sub_eq_zero_of_le ((s.full_iff _).mp hfull).ge
    refine ⟨_, State.drained_none hs (by rw [hroom, Nat.zero_min]) ?_⟩
    rw [State.drained_full hfull, hroom, State.residue]
    cases s.cfg.rxResidue with
    | discard => rfl
    | retain => exact (State.setPeripheral_self hq).symm
  induction q with
  | nil =>
    intro s hs hq
    cases hfull : s.full (s.cfg.rx k) with
    | true => exact full s [] hs hq hfull
    | false =>
      refine ⟨_, State.drained_none hs (Nat.min_zero _) ?_⟩
      rw [State.drained, if_neg (by simp [hfull]), List.drop_nil, ite_self, State.setPeripheral_self hq]
  | cons f rest ih =>
    intro s hs hq
    cases hfull : s.full (s.cfg.rx k) with
    | true => exact full s (f :: rest) hs hq hfull
    | false =>
      obtain ⟨hsound, hocc⟩ := State.received_sound (f := f) (rest := rest) hs hfull
      obtain ⟨store, h⟩ := ih (s.received k f rest) (by rwa [State.received_cfg]) (State.received_rxq hq)
      refine ⟨store, ?_⟩
      have hle := hsound.2.2.2.2
      rw [State.received_cfg, hocc] at h hle
      rw [State.drained, if_neg (by simp [hfull]),
        show s.cfg.cap (s.cfg.rx k) - s.occupancy (s.cfg.rx k) =
          s.cfg.cap (s.cfg.rx k) - (s.occupancy (s.cfg.rx k) + 1) + 1 by omega]
      exact State.drained_received hs hfull h

end

/-- Settles O43. -/
theorem isrRxDrainsBurst : Obligations.IsrRxDrainsBurst := by
  intro s k c room pending taken hk hhw side hx quiet hs
  obtain ⟨store, h⟩ := State.drained_spec (k := k) pending (s.showing .irq .none) hs rfl
  refine ⟨_, store, exec_isrRx (State.verdict_isrRx hk side hx quiet) (State.ctx_of_dispatcher hx), h.contents, h.size,
    h.others, ?_⟩
  rw [h.state, State.filled_showing, State.showing_leave]
  rfl

end Sys2Proof.Machine
